-- ==== Sys2Proof/Word.lean ====
section
/-! DEFINITION. The words of the host line: bytes as the serial line carries them (R156), and the two- and four-byte
numbers that payloads carry most significant byte first (R166). Every other quantity of the manual is "an integer in a
stated unit" (00_scope, Units and ranges) and is a `Nat` (or an `Int` where R61 computes with signs). -/

namespace Sys2Proof

/-- One byte of the host line (R156). -/
abbrev Byte := BitVec 8

/-- A payload number of two bytes (R166). -/
abbrev Half := BitVec 16

/-- A payload number of four bytes (R166). -/
abbrev Quad := BitVec 32

/-- `n` with the ceiling `m` ("saturates at m"). -/
abbrev satAt (m n : Nat) : Nat := min n m

/-- The distance between two numbers "taken without sign". -/
abbrev dist (a b : Nat) : Nat := if a ≤ b then b - a else a - b

end Sys2Proof
end

