-- ==== Sys2Proof/Syntax.lean ====
section
/-! DEFINITION. The commands of the block, one constructor of `Instr` per row of spec/opcode_table.json. A request row
carries the tag byte of its frame and the request's fields as the payload carries them (R166), unjudged: ranges are
judged by the owner's rule. A plant row names its tube, zone or line and the value or level that arrives;
LOG_SEQUENCE_WRAP, which R151 lets happen at the writing of a record only, names the detection that is to be recorded
(log entry 36). -/

namespace Sys2Proof

/-- The four tube slots, numbered 1 to 4 from the bottom of the stack. -/
inductive Tube where
  | t1 | t2 | t3 | t4
deriving DecidableEq, Repr, Inhabited

/-- The five zone positions of a tube, zone 1 at the mouth. -/
inductive Zone where
  | z1 | z2 | z3 | z4 | z5
deriving DecidableEq, Repr

/-- The four gas lines of a tube and the four supply headers, in code order (R167). -/
inductive GasLine where
  | n2 | o2 | h2 | aux
deriving DecidableEq, Repr

/-- The two thermocouples of a zone (3.2). -/
inductive Thermocouple where
  | profile | spike
deriving DecidableEq, Repr

/-- What a thermocouple sample arrival carries: the mark open, or a temperature in 0.1 °C (3.2). -/
inductive Reading where
  | isOpen
  | temp (t : Nat)
deriving DecidableEq, Repr

/-- The three bank lines of the fault block (R149). The load-shed line is the allocator's (R74). -/
inductive BankLine where
  | hydrogen | interlock | exhaust
deriving DecidableEq, Repr

/-- The nineteen fault kinds, in code order (8.1). -/
inductive FaultKind where
  | tcOpen | overtemp | tcDisagree | deviation | rampStalled | powerStarved | stepTimeout | flowDeviation
  | headerWaitTimeout | purgeIncomplete | ignitionFailed | flameLost | ratioClamped | h2Detected | interlockOpen
  | exhaustLost | shedActive | boatStall | shutterTimeout
deriving DecidableEq, Repr, Inhabited

/-- Fields 4 to 29 of CONFIGURE_TUBE as the payload carries them (R173); fields 1 to 3 stand in the request. -/
structure TubeFields where
  ratings : List Byte
  maxTemp : Half
  elementLimit : Half
  disagreeLimit : Half
  deviationBand : Half
  idleTemp : Half
  idleRate : Byte
  scaleN2 : Half
  scaleO2 : Half
  scaleH2 : Half
  scaleAux : Half
  idleN2 : Half
  purgeN2 : Half
  safetyN2 : Half
  ratio : Byte
  ignitionH2 : Half
  volume : Half
  exchanges : Byte
  preflowTime : Byte
  ignitionTimeout : Byte
  postFlowTime : Byte
  travel : Half
  boatN2Min : Half
  stallLimit : Half
  defaultBank : Byte
  starveLimit : Half
deriving DecidableEq, Repr

/-- A step record as RECIPE_STEP carries it (R32, R169): each field present or absent, values unjudged. -/
structure RawStep where
  endCond : Option Byte
  duration : Option Half
  targets : Option (List Half)
  rate : Option Byte
  band : Option Half
  holdback : Option Half
  lockstep : Option Byte
  n2 : Option Half
  o2 : Option Half
  h2 : Option Half
  aux : Option Half
  move : Option (Half × Half)
  bank : Option Byte
  mask : Option Byte
deriving DecidableEq, Repr

/-- One entry of LOAD_TUNING: Kp, Ki and Lmax of a zone position (R67). -/
structure TuningFields where
  kp : Half
  ki : Half
  lmax : Half
deriving DecidableEq, Repr

/-- The decoded requests of the host line (R160, R167), fields unjudged. -/
inductive Request where
  | identify
  | setNotices (stepEntered runEnded faultActed tubeState : Byte)
  | configureTube (tube fitted activeZones : Byte) (f : TubeFields)
  | configureBank (n2 o2 h2 aux : Byte) (shedBudget waitTimeout : Half)
  | commission
  | setClock (offset : Quad)
  | restart
  | run (tube slot : Byte)
  | hold (tube : Byte)
  | resume (tube : Byte)
  | skipStep (tube : Byte)
  | abort (tube : Byte)
  | safeStop (tube : Byte)
  | recover (tube : Byte)
  | queryTube (tube : Byte)
  | recipeOpen (slot : Byte) (name : List Byte) (owner resident zoneCount mainCount tailCount : Byte)
  | recipeStep (list index : Byte) (record : RawStep)
  | recipeClose
  | recipeCancel
  | recipeDrop (slot : Byte)
  | recipeDropOwner (owner : Byte)
  | readRecipe (slot list index : Byte)
  | loadTuning (bank : Byte) (e1 e2 e3 e4 e5 : TuningFields)
  | queryZones (tube : Byte)
  | setBudget (budget : Half)
  | queryPower
  | queryGas
  | queryAtmosphere (tube : Byte)
  | setSpeedTable (tube : Byte) (entries : List (Half × Half))
  | boatJog (tube : Byte) (target speed : Half)
  | queryBoat (tube : Byte)
  | setFaultPolicy (kind enable level action : Byte)
  | clearFaults (tube : Byte) (kinds : List Byte)
  | readLog (start : Quad)
  | queryFaults (tube : Byte)
deriving DecidableEq, Repr

/-- The commands, one constructor per row of spec/opcode_table.json, in the table's order. -/
inductive Instr where
  | rxByte (b : Byte)
  | rxFramingError
  | silenceTimeout
  | takeRequest
  | transmitComplete
  | identify (tag : Byte)
  | setNotices (tag stepEntered runEnded faultActed tubeState : Byte)
  | configureTube (tag tube fitted activeZones : Byte) (f : TubeFields)
  | configureBank (tag n2 o2 h2 aux : Byte) (shedBudget waitTimeout : Half)
  | commission (tag : Byte)
  | setClock (tag : Byte) (offset : Quad)
  | restart (tag : Byte)
  | run (tag tube slot : Byte)
  | hold (tag tube : Byte)
  | resume (tag tube : Byte)
  | skipStep (tag tube : Byte)
  | abort (tag tube : Byte)
  | safeStop (tag tube : Byte)
  | recover (tag tube : Byte)
  | queryTube (tag tube : Byte)
  | recipeOpen (tag slot : Byte) (name : List Byte) (owner resident zoneCount mainCount tailCount : Byte)
  | recipeStep (tag list index : Byte) (record : RawStep)
  | recipeClose (tag : Byte)
  | recipeCancel (tag : Byte)
  | recipeDrop (tag slot : Byte)
  | recipeDropOwner (tag owner : Byte)
  | readRecipe (tag slot list index : Byte)
  | loadTuning (tag bank : Byte) (e1 e2 e3 e4 e5 : TuningFields)
  | queryZones (tag tube : Byte)
  | setBudget (tag : Byte) (budget : Half)
  | queryPower (tag : Byte)
  | queryGas (tag : Byte)
  | queryAtmosphere (tag tube : Byte)
  | setSpeedTable (tag tube : Byte) (entries : List (Half × Half))
  | boatJog (tag tube : Byte) (target speed : Half)
  | queryBoat (tag tube : Byte)
  | setFaultPolicy (tag kind enable level action : Byte)
  | clearFaults (tag tube : Byte) (kinds : List Byte)
  | readLog (tag : Byte) (start : Quad)
  | queryFaults (tag tube : Byte)
  | powerOn
  | resetN
  | resetRelease (rateStrap : Bool)
  | uptimeTick
  | stepTimerTick (tube : Tube)
  | stepTimeElapsed (tube : Tube)
  | stepTimeout (tube : Tube)
  | sampleArrival (tube : Tube) (zone : Zone) (tc : Thermocouple) (value : Reading)
  | thermalTick (tube : Tube)
  | rampStalled (tube : Tube)
  | allocationPass
  | powerStarved (tube : Tube) (zone : Zone)
  | loadShedEdge (rising : Bool)
  | flowReadback (tube : Tube) (line : GasLine) (value : Nat)
  | gasTick (tube : Tube)
  | admitted
  | headerWaitTimeout (tube : Tube)
  | flowDeviation (tube : Tube) (line : GasLine)
  | purgeComplete (tube : Tube)
  | purgeIncomplete (tube : Tube)
  | ignitionChange (tube : Tube)
  | flameSenseRise (tube : Tube)
  | flameSenseFall (tube : Tube)
  | ignitionFailed (tube : Tube)
  | postFlowEnd (tube : Tube)
  | positionArrival (tube : Tube) (position : Nat)
  | motionTick (tube : Tube)
  | moveStart (tube : Tube)
  | openLimitEdge (tube : Tube) (rising : Bool)
  | closedLimitEdge (tube : Tube) (rising : Bool)
  | settleTimeout (tube : Tube)
  | shutterTimeout (tube : Tube)
  | bankLineEdge (line : BankLine) (rising : Bool)
  | logSequenceWrap
deriving DecidableEq, Repr

end Sys2Proof
end

