-- ==== Sys2Proof/Config.lean ====
section
/-! DEFINITION. What the manual leaves to the installation or to the model, as named constants: the levels of the
input lines at the moment the reset of `State.reset` ends (the manual says only "the level of the line when reset
ends", R71, R102, R122, R149, R156), and the bound on the chain of block-to-block reports inside one event. -/

namespace Sys2Proof.Config

/-- DESIGN CHOICE (log entry 6), unsafe: every input line of the plant stands low (clear) when the reset of
`State.reset` ends. -/
def lineLevelAtReset : Bool := false

/-- DESIGN CHOICE (log entry 6), unsafe: the rate strap reads low (115 200 bit/s) in `State.reset`. RESET_RELEASE
carries the level it reads. -/
def rateStrapAtReset : Bool := false

/-- DESIGN CHOICE (log entry 4): how many reports from block to block one event may chain. It exceeds what the 56
steps of a recipe in each of four tubes can give rise to. -/
def cascadeBound : Nat := 65536

/-- What a detection tells the fault block (R142): the tube, the kind, the zone or line, the measured value, the limit. -/
structure Report where
  tube : Tube
  kind : FaultKind
  place : Option Nat
  measured : Option Nat
  limit : Option Nat
deriving DecidableEq, Repr, Inhabited

/-- FREE VALUE (log entry 36): the detection whose record is about to be written when LOG_SEQUENCE_WRAP happens. The
manual gives that row no operand. The argument is `Faults.wraps`, so that each such event has a value of its own. -/
opaque wrapReport : Nat → Report

end Sys2Proof.Config
end

