-- ==== Sys2Proof/Machine/State.lean ====
section
/-! DEFINITION. The state of the DB-450 as plain data: the records of every block, the input lines, the queue of
waiting commands, the reasons a step can stop, and the state after reset. INVENTORY.md lists every field with the rule
that names it. -/

namespace Sys2Proof.Machine

/-! ### Containers: one value per tube, per zone, per line, per power class -/

/-- One value for each tube slot. -/
structure PerTube (α : Type) where
  t1 : α
  t2 : α
  t3 : α
  t4 : α
deriving DecidableEq, Repr

/-- One value for each zone position of a tube. -/
structure PerZone (α : Type) where
  z1 : α
  z2 : α
  z3 : α
  z4 : α
  z5 : α
deriving DecidableEq, Repr

/-- One value for each gas line (or header). -/
structure PerLine (α : Type) where
  n2 : α
  o2 : α
  h2 : α
  aux : α
deriving DecidableEq, Repr

/-- One value for each power class (R77). -/
structure PerClass (α : Type) where
  soak : α
  ramp : α
  other : α
deriving DecidableEq, Repr

/-- A set of four flows in sccm. -/
abbrev Flows := PerLine Nat

/-! ### Enumerations (R167) -/

/-- The run states of a tube (R1). -/
inductive RunState where
  | offline | idle | running | holding | aborting | safe
deriving DecidableEq, Repr

/-- The end conditions of a step (R15). -/
inductive EndCond where
  | time | temp | boat | gas | all
deriving DecidableEq, Repr

/-- The two step lists of a recipe. -/
inductive ListSel where
  | main | tail
deriving DecidableEq, Repr

/-- The action of a policy record (R139). -/
inductive PolicyAction where
  | advisory | hold | abort | safe
deriving DecidableEq, Repr

/-- The action applied to a detection (R141). -/
inductive Applied where
  | none | advisory | hold | abort | safe | escalated
deriving DecidableEq, Repr

/-- The cause of a TUBE_STATE notice (R7). -/
inductive Cause where
  | commission | run | hold | resume | abort | safeStop | recover
  | fault (kind : FaultKind)
  | listEnd
deriving DecidableEq, Repr

/-- The results of a run (R18). -/
inductive RunResult where
  | completed | aborted | stoppedSafe
deriving DecidableEq, Repr

/-- The atmosphere classes (R101). -/
inductive AtmClass where
  | inert | oxidizing | doping | steam
deriving DecidableEq, Repr

/-- The atmosphere states (R102). -/
inductive AtmState where
  | stable | waitHeader | purge | preflow | ignite | lit | extinguish | safeFlow
deriving DecidableEq, Repr

/-- The phases a change waiting at the arbiter may lead to (R102). -/
inductive Phase where
  | stable | purge | preflow | ignite | lit
deriving DecidableEq, Repr

/-- Where the change that a tube in WAIT_HEADER waits for was made, which R116 tells apart. -/
inductive WaitOrigin where
  | stable | extinguish | purgeDone | purgeSuperseded
deriving DecidableEq, Repr

/-- The boat states (R121). -/
inductive BoatState where
  | ready | waitCond | shutterOpening | travel | settle | shutterClosing | paused | stalled
deriving DecidableEq, Repr

/-- The shutter states (R122). -/
inductive ShutterState where
  | closed | opening | opened | closing
deriving DecidableEq, Repr

/-- The direction of the loader's speed command (R127). -/
inductive Direction where
  | inward | outward
deriving DecidableEq, Repr

/-- The heater inhibit of a tube, with its cause (R47). -/
inductive Inhibit where
  | clear | idle | fault
deriving DecidableEq, Repr

/-- The power classes 3 SOAK, 2 RAMP and 1 OTHER (R77). -/
inductive PowerClass where
  | soak | ramp | other
deriving DecidableEq, Repr

/-- A held thermocouple sample (R46). -/
inductive Sample where
  | absent
  | isOpen
  | temp (t : Nat)
deriving DecidableEq, Repr

/-- The next expected position of a load (R33). -/
inductive Position where
  | step (list : ListSel) (index : Nat)
  | complete
deriving DecidableEq, Repr

/-- The state of a tube's configuration record (R172). -/
inductive TubeStatus where
  | unconfigured | fitted | notFitted
deriving DecidableEq, Repr

/-- The states of the receive assembler (R157). -/
inductive AsmState where
  | hunting | length | body | check
deriving DecidableEq, Repr

/-! ### Run controller (R1) -/

/-- The ramp parameters a run controller hands to its thermal block (R4). -/
structure RampParams where
  rate : Nat
  band : Nat
  holdback : Nat
  lockstep : Bool
deriving DecidableEq, Repr

/-- The run record of a tube (R1). -/
structure RunRec where
  state : RunState
  recipe : Option (Fin 16)
  list : ListSel
  step : Nat
  timer : Nat
  timeoutRaised : Bool
  holdHost : Bool
  holdFault : Bool
  mask : Nat
  bank : Fin 8
  params : RampParams
  tempView : Bool
  boatView : Bool
  gasView : Bool
  startStamp : Nat
deriving DecidableEq, Repr

/-! ### Recipe store (R30 to R33) -/

/-- A stored step record (R32). -/
structure Step where
  endCond : EndCond
  duration : Nat
  targets : Option (List Nat)
  rate : Option Nat
  band : Option Nat
  holdback : Option Nat
  lockstep : Option Bool
  flows : PerLine (Option Nat)
  move : Option (Nat × Nat)
  bank : Option (Fin 8)
  mask : Option Nat
deriving DecidableEq, Repr

/-- The fields of a slot in LOADING (`closed = false`) or CLOSED (R30). The stored counts are the lengths of the
two step lists. -/
structure Recipe where
  closed : Bool
  name : List Byte
  owner : Nat
  resident : Bool
  zoneCount : Nat
  mainCount : Nat
  tailCount : Nat
  main : List Step
  tail : List Step
  inUse : Nat
deriving DecidableEq, Repr

/-- The open load context (R33). -/
structure LoadCtx where
  slot : Fin 16
  mainCount : Nat
  tailCount : Nat
  next : Position
  storedMain : Nat
  storedTail : Nat
deriving DecidableEq, Repr

/-- The recipe store: an EMPTY slot is `none` (R30, R31, R33). -/
structure Store where
  slots : Vector (Option Recipe) 16
  reserved : Nat
  load : Option LoadCtx
deriving DecidableEq, Repr

/-! ### Thermal blocks and tuning banks (R46, R47, R66) -/

/-- A zone record of a thermal block (R46). -/
structure ZoneRec where
  setpoint : Nat
  origin : Nat
  target : Nat
  remainder : Nat
  complete : Bool
  integral : Nat
  profile : Sample
  spike : Sample
  demand : Nat
  tcOpen : Bool
  overtemp : Bool
  disagree : Bool
  deviation : Bool
deriving DecidableEq, Repr

/-- The tube record of a thermal block (R47) with its zone records. -/
structure ThermalRec where
  runState : RunState
  params : RampParams
  counter : Nat
  stalled : Bool
  inhibit : Inhibit
  zones : PerZone ZoneRec
deriving DecidableEq, Repr

/-- The constants of one zone position of a tuning bank (R66). -/
structure Tuning where
  kp : Nat
  ki : Nat
  lmax : Nat
deriving DecidableEq, Repr

/-! ### Power allocator (R71, R72) -/

/-- The result of the latest pass for one power class (R71). -/
structure ClassResult where
  demand : Nat
  granted : Nat
  short : Bool
deriving DecidableEq, Repr

/-- A zone record of the allocator (R72). -/
structure AllocZone where
  part : Bool
  cls : PowerClass
  watts : Nat
  grant : Nat
  starved : Bool
  firing : Nat
  timer : Nat
  starvedCond : Bool
deriving DecidableEq, Repr

/-- The allocator's bank record and zone records. The shed budget is held once, in the configuration (R174). -/
structure Alloc where
  budget : Option Nat
  shed : Bool
  shedActive : Bool
  pointers : PerClass Nat
  effective : Nat
  results : PerClass ClassResult
  zones : PerTube (PerZone AllocZone)
deriving DecidableEq, Repr

/-! ### Gas supply arbiter (R85, R88, R90) -/

/-- A line record (R85). `valve` is true while open. -/
structure LineRec where
  command : Nat
  valve : Bool
  readback : Option Nat
  age : Nat
  devRun : Nat
  raised : Bool
  deviation : Bool
deriving DecidableEq, Repr

/-- An entry of the gas wait queue (R90). -/
structure GasEntry where
  tube : Tube
  flows : Flows
  age : Nat
  timedOut : Bool
deriving DecidableEq, Repr

/-- The arbiter's records. The header limits and the header wait timeout are held once, in the configuration (R174). -/
structure Gas where
  granted : PerTube Flows
  safety : PerTube Bool
  queue : List GasEntry
  lines : PerTube (PerLine LineRec)
deriving DecidableEq, Repr

/-! ### Atmosphere controllers (R102) -/

/-- The record of an atmosphere controller (R102). `waitOrigin` tells where a change waiting in WAIT_HEADER was made
(R116), and `runRequest` holds the run controller's latest request after the ratio clamp, with which its gas view
compares (R102, R117). -/
structure AtmRec where
  state : AtmState
  cls : AtmClass
  requested : Flows
  target : Flows
  targetClass : AtmClass
  fallback : Bool
  inForce : Flows
  awaited : Option Phase
  waitOrigin : WaitOrigin
  runRequest : Flows
  purgeOrigin : AtmClass
  purged : Bool
  purgeTarget : Nat
  purgeVolume : Nat
  purgeRemainder : Nat
  purgeTimer : Nat
  purgeLimit : Nat
  incomplete : Bool
  phaseTimer : Nat
  igniter : Bool
  flame : Bool
  safeHold : Bool
deriving DecidableEq, Repr

/-! ### Boat blocks (R121, R122) -/

/-- The boat record and shutter record of a tube, with the speed command as driven (R127, R137). -/
structure BoatRec where
  state : BoatState
  pos : Option Nat
  measured : Option Nat
  target : Option Nat
  stepSpeed : Nat
  failed : Bool
  remainder : Nat
  effSpeed : Nat
  pauseHold : Bool
  pauseN2 : Bool
  phaseTimer : Nat
  closePending : Bool
  holdFlag : Bool
  speedTable : List (Nat × Nat)
  speedCmd : Nat
  direction : Direction
  shutter : ShutterState
  openLimit : Bool
  closedLimit : Bool
deriving DecidableEq, Repr

/-! ### Fault block (R139, R143, R146, R149, R151) -/

/-- A policy record (R139). -/
structure PolicyRec where
  enable : Bool
  level : Nat
  action : PolicyAction
deriving DecidableEq, Repr

/-- A status entry; its kind is its place in the tube's set (R143). -/
structure Entry where
  count : Nat
  acted : Bool
  stamp : Nat
deriving DecidableEq, Repr

/-- A fault log record (R151, R171). `place` is the zone number, or the line's code for the two gas kinds. -/
structure LogRec where
  seq : Nat
  stamp : Nat
  tube : Option Tube
  kind : FaultKind
  level : Nat
  action : Applied
  tubeState : Option RunState
  mask : Option Nat
  listStep : Option (ListSel × Nat)
  place : Option Nat
  measured : Option Nat
  limit : Option Nat
deriving DecidableEq, Repr

/-- The fault block. The conditions of the three bank lines follow from their levels in every state (R149). -/
structure Faults where
  policy : Vector PolicyRec 19
  entries : PerTube (Vector (Option Entry) 19)
  pointer : PerTube (Option FaultKind)
  hydrogen : Bool
  interlock : Bool
  exhaust : Bool
  log : List LogRec
  nextSeq : Nat
  /-- The MODEL's own count of the free values that LOG_SEQUENCE_WRAP took (log entry 36); the manual has no such field. -/
  wraps : Nat
deriving DecidableEq, Repr

/-! ### Configuration (R172 to R174) and time base (R176) -/

/-- The configuration record of one tube slot (R173). -/
structure TubeConfig where
  status : TubeStatus
  activeZones : Nat
  ratings : List Nat
  maxTemp : Nat
  elementLimit : Nat
  disagreeLimit : Nat
  deviationBand : Nat
  idleTemp : Nat
  idleRate : Nat
  scale : Flows
  idleN2 : Nat
  purgeN2 : Nat
  safetyN2 : Nat
  ratio : Nat
  ignitionH2 : Nat
  volume : Nat
  exchanges : Nat
  preflowTime : Nat
  ignitionTimeout : Nat
  postFlowTime : Nat
  travel : Nat
  boatN2Min : Nat
  stallLimit : Nat
  defaultBank : Fin 8
  starveLimit : Nat
deriving DecidableEq, Repr

/-- The bank record of the configuration (R174). -/
structure BankConfig where
  headers : Flows
  shedBudget : Nat
  waitTimeout : Nat
deriving DecidableEq, Repr

/-- The configuration with its lock state (R172). -/
structure Configuration where
  locked : Bool
  tubes : PerTube TubeConfig
  bank : BankConfig
deriving DecidableEq, Repr

/-- The time base (R176). -/
structure TimeBase where
  uptime : Nat
  offset : Nat
deriving DecidableEq, Repr

/-! ### Link controller (R156 to R163) -/

/-- A good frame in the request queue: kind, tag and payload (R156, R159). -/
structure Frame where
  kind : Byte
  tag : Byte
  payload : List Byte
deriving DecidableEq, Repr

/-- A reply in the reply queue: a request reply or a link reply, with the payload of each of its frames (R159, R160,
R170). `restarts` marks the OK of a RESTART (R177). -/
structure Reply where
  fromRequest : Bool
  kind : Byte
  tag : Byte
  payloads : List (List Byte)
  restarts : Bool
deriving DecidableEq, Repr

/-- The content of a notice (R7, R12, R18, R153). -/
inductive Notice where
  | stepEntered (tube : Tube) (slot : Nat) (list : ListSel) (step : Nat) (endCond : EndCond) (duration stamp : Nat)
  | runEnded (tube : Tube) (slot : Nat) (result : RunResult) (list : ListSel) (step start stamp : Nat)
  | faultActed (tube : Tube) (kind : FaultKind) (level : Nat) (action : Applied) (tubeState : RunState)
      (seq stamp : Nat)
  | tubeState (tube : Tube) (new old : RunState) (cause : Cause) (stamp : Nat)
deriving DecidableEq, Repr

/-- A notice in the queue with its LOST mark (R162). -/
structure QueuedNotice where
  lost : Bool
  notice : Notice
deriving DecidableEq, Repr

/-- What the transmitter is sending (R161). -/
inductive Outgoing where
  | reply (r : Reply)
  | notice (n : QueuedNotice)
deriving DecidableEq, Repr

/-- The four notice enables (R163). -/
structure Enables where
  stepEntered : Bool
  runEnded : Bool
  faultActed : Bool
  tubeState : Bool
deriving DecidableEq, Repr

/-- The link controller: receive assembler with the length and the bytes it has kept, queues, lost flag, enables,
transmitter, the bit rate read from the strap (true is 460 800 bit/s) and the mark that a RESTART has been taken. -/
structure Link where
  asm : AsmState
  asmLength : Nat
  asmBytes : List Byte
  requests : List Frame
  replies : List Reply
  notices : List QueuedNotice
  lost : Bool
  enables : Enables
  tx : Option Outgoing
  fastRate : Bool
  restarting : Bool
deriving DecidableEq, Repr

/-- The input lines of the part as they stand, followed while the part is held in reset too. -/
structure Lines where
  rateStrap : Bool
  loadShed : Bool
  hydrogen : Bool
  interlock : Bool
  exhaust : Bool
  flame : PerTube Bool
  openLimit : PerTube Bool
  closedLimit : PerTube Bool
deriving DecidableEq, Repr

/-- The state of the DB-450 and the queue of commands that wait to be run, first in, first out. -/
structure State where
  run : PerTube RunRec
  store : Store
  thermal : PerTube ThermalRec
  banks : Vector (PerZone Tuning) 8
  alloc : Alloc
  gas : Gas
  atm : PerTube AtmRec
  boat : PerTube BoatRec
  faults : Faults
  config : Configuration
  time : TimeBase
  link : Link
  lines : Lines
  inReset : Bool
  pending : List Instr
deriving DecidableEq, Repr

/-! ### Why a step can stop -/

/-- A step never ends in a fault: the manual gives every event and every request an effect, and the part's own faults
are records and actions of its fault block (chapter 8), not stops. -/
inductive Fault where
deriving DecidableEq, Repr

/-- Why a command has no meaning in the model. -/
inductive Refusal where
  /-- Raised by `exec` for a command whose meaning is not modelled; safe (the model stops). No arm raises it. -/
  | notModelled (mnemonic : String)
deriving DecidableEq, Repr

/-! ### Reading and writing the containers -/

/-- The value of a tube. -/
def PerTube.get {α : Type} (p : PerTube α) : Tube → α
  | .t1 => p.t1
  | .t2 => p.t2
  | .t3 => p.t3
  | .t4 => p.t4

/-- Write the value of a tube. -/
def PerTube.set {α : Type} (p : PerTube α) (t : Tube) (v : α) : PerTube α :=
  match t with
  | .t1 => { p with t1 := v }
  | .t2 => { p with t2 := v }
  | .t3 => { p with t3 := v }
  | .t4 => { p with t4 := v }

/-- The value of a zone. -/
def PerZone.get {α : Type} (p : PerZone α) : Zone → α
  | .z1 => p.z1
  | .z2 => p.z2
  | .z3 => p.z3
  | .z4 => p.z4
  | .z5 => p.z5

/-- Write the value of a zone. -/
def PerZone.set {α : Type} (p : PerZone α) (z : Zone) (v : α) : PerZone α :=
  match z with
  | .z1 => { p with z1 := v }
  | .z2 => { p with z2 := v }
  | .z3 => { p with z3 := v }
  | .z4 => { p with z4 := v }
  | .z5 => { p with z5 := v }

/-- The value of a line. -/
def PerLine.get {α : Type} (p : PerLine α) : GasLine → α
  | .n2 => p.n2
  | .o2 => p.o2
  | .h2 => p.h2
  | .aux => p.aux

/-- Write the value of a line. -/
def PerLine.set {α : Type} (p : PerLine α) (l : GasLine) (v : α) : PerLine α :=
  match l with
  | .n2 => { p with n2 := v }
  | .o2 => { p with o2 := v }
  | .h2 => { p with h2 := v }
  | .aux => { p with aux := v }

/-- The value of a power class. -/
def PerClass.get {α : Type} (p : PerClass α) : PowerClass → α
  | .soak => p.soak
  | .ramp => p.ramp
  | .other => p.other

/-- Write the value of a power class. -/
def PerClass.set {α : Type} (p : PerClass α) (k : PowerClass) (v : α) : PerClass α :=
  match k with
  | .soak => { p with soak := v }
  | .ramp => { p with ramp := v }
  | .other => { p with other := v }

/-- The same value for every tube. -/
def PerTube.all {α : Type} (v : α) : PerTube α := ⟨v, v, v, v⟩

/-- The same value for every zone. -/
def PerZone.all {α : Type} (v : α) : PerZone α := ⟨v, v, v, v, v⟩

/-- The same value for every line. -/
def PerLine.all {α : Type} (v : α) : PerLine α := ⟨v, v, v, v⟩

/-- The same value for every power class. -/
def PerClass.all {α : Type} (v : α) : PerClass α := ⟨v, v, v⟩

/-! ### The values after reset -/

/-- The ramp parameters after reset (R1, R47). -/
def RampParams.reset : RampParams := { rate := 1, band := 0, holdback := 0, lockstep := true }

/-- The run record after reset (R1). -/
def RunRec.reset : RunRec :=
  { state := .offline, recipe := none, list := .main, step := 0, timer := 0, timeoutRaised := false,
    holdHost := false, holdFault := false, mask := 0, bank := 0, params := .reset,
    tempView := false, boatView := false, gasView := false, startStamp := 0 }

/-- The recipe store after reset (R30, R31, R33). -/
def Store.reset : Store := { slots := Vector.replicate 16 none, reserved := 0, load := none }

/-- A zone record after reset (R46). -/
def ZoneRec.reset : ZoneRec :=
  { setpoint := 0, origin := 0, target := 0, remainder := 0, complete := true, integral := 0,
    profile := .absent, spike := .absent, demand := 0,
    tcOpen := false, overtemp := false, disagree := false, deviation := false }

/-- A thermal block after reset (R47). -/
def ThermalRec.reset : ThermalRec :=
  { runState := .offline, params := .reset, counter := 0, stalled := false, inhibit := .clear,
    zones := PerZone.all .reset }

/-- A tuning constant set after reset (R66). -/
def Tuning.reset : Tuning := { kp := 0, ki := 0, lmax := 0 }

/-- An allocator zone record after reset (R72). -/
def AllocZone.reset : AllocZone :=
  { part := false, cls := .other, watts := 0, grant := 0, starved := false, firing := 0, timer := 0,
    starvedCond := false }

/-- The allocator after reset, with the load-shed line at `shed` (R71). -/
def Alloc.resetAt (shed : Bool) : Alloc :=
  { budget := none, shed := shed, shedActive := false, pointers := PerClass.all 1, effective := 0,
    results := PerClass.all { demand := 0, granted := 0, short := false },
    zones := PerTube.all (PerZone.all .reset) }

/-- A line record after reset, with its valve at `valve` (R85). -/
def LineRec.resetAt (valve : Bool) : LineRec :=
  { command := 0, valve := valve, readback := none, age := 0, devRun := 0, raised := false, deviation := false }

/-- The arbiter after reset: N2 valves open, the others closed (R85, R88). -/
def Gas.reset : Gas :=
  { granted := PerTube.all (PerLine.all 0), safety := PerTube.all false, queue := [],
    lines := PerTube.all
      { n2 := .resetAt true, o2 := .resetAt false, h2 := .resetAt false, aux := .resetAt false } }

/-- An atmosphere controller after reset, with its flame-sense line at `flame` (R102). -/
def AtmRec.resetAt (flame : Bool) : AtmRec :=
  { state := .stable, cls := .inert, requested := PerLine.all 0, target := PerLine.all 0, targetClass := .inert,
    fallback := false, inForce := PerLine.all 0, awaited := none, waitOrigin := .stable,
    runRequest := PerLine.all 0, purgeOrigin := .inert, purged := false, purgeTarget := 0, purgeVolume := 0,
    purgeRemainder := 0, purgeTimer := 0, purgeLimit := 0, incomplete := false, phaseTimer := 0,
    igniter := false, flame := flame, safeHold := false }

/-- A boat block after reset, with its limit inputs at `openLimit` and `closedLimit` (R121, R122). The loader's
direction is a DESIGN CHOICE (log entry 19): the speed command is 0. -/
def BoatRec.resetAt (openLimit closedLimit : Bool) : BoatRec :=
  { state := .ready, pos := none, measured := none, target := none, stepSpeed := 10, failed := false,
    remainder := 0, effSpeed := 0, pauseHold := false, pauseN2 := false, phaseTimer := 0,
    closePending := false, holdFlag := false, speedTable := [], speedCmd := 0, direction := .inward,
    shutter := if openLimit && !closedLimit then .opened else .closed,
    openLimit := openLimit, closedLimit := closedLimit }

/-- The default policy, in code order (8.1, R139). -/
def defaultPolicy : Vector PolicyRec 19 :=
  ⟨#[⟨true, 7, .safe⟩, ⟨true, 7, .safe⟩, ⟨true, 5, .abort⟩, ⟨true, 3, .advisory⟩, ⟨true, 4, .hold⟩,
     ⟨true, 2, .advisory⟩, ⟨true, 5, .abort⟩, ⟨true, 4, .hold⟩, ⟨true, 4, .hold⟩, ⟨true, 5, .abort⟩,
     ⟨true, 6, .abort⟩, ⟨true, 7, .safe⟩, ⟨true, 1, .advisory⟩, ⟨true, 7, .safe⟩, ⟨true, 7, .safe⟩,
     ⟨true, 6, .abort⟩, ⟨true, 1, .advisory⟩, ⟨true, 6, .safe⟩, ⟨true, 5, .abort⟩], rfl⟩

/-- The fault block after reset, with its three lines at the levels given (R139, R143, R146, R149, R151). -/
def Faults.resetAt (hydrogen interlock exhaust : Bool) : Faults :=
  { policy := defaultPolicy, entries := PerTube.all (Vector.replicate 19 none), pointer := PerTube.all none,
    hydrogen := hydrogen, interlock := interlock, exhaust := exhaust, log := [], nextSeq := 0, wraps := 0 }

/-- A tube configuration record after reset: UNCONFIGURED with every field 0 (R172). -/
def TubeConfig.reset : TubeConfig :=
  { status := .unconfigured, activeZones := 0, ratings := [], maxTemp := 0, elementLimit := 0, disagreeLimit := 0,
    deviationBand := 0, idleTemp := 0, idleRate := 0, scale := PerLine.all 0, idleN2 := 0, purgeN2 := 0,
    safetyN2 := 0, ratio := 0, ignitionH2 := 0, volume := 0, exchanges := 0, preflowTime := 0,
    ignitionTimeout := 0, postFlowTime := 0, travel := 0, boatN2Min := 0, stallLimit := 0, defaultBank := 0,
    starveLimit := 0 }

/-- The configuration after reset (R172). -/
def Configuration.reset : Configuration :=
  { locked := false, tubes := PerTube.all .reset,
    bank := { headers := PerLine.all 0, shedBudget := 0, waitTimeout := 0 } }

/-- The link controller after reset, with the rate strap at `strap` (R156). -/
def Link.resetAt (strap : Bool) : Link :=
  { asm := .hunting, asmLength := 0, asmBytes := [], requests := [], replies := [], notices := [], lost := false,
    enables := { stepEntered := true, runEnded := true, faultActed := true, tubeState := true },
    tx := none, fastRate := strap, restarting := false }

/-- The part with every block at the values its chapter gives after reset, its input lines standing at `lines`
(R177). `held` says whether the reset still lasts; `pending` is the queue of commands, which no reset touches. -/
def State.resetAt (lines : Lines) (held : Bool) (pending : List Instr) : State :=
  { run := PerTube.all .reset, store := .reset, thermal := PerTube.all .reset,
    banks := Vector.replicate 8 (PerZone.all .reset), alloc := .resetAt lines.loadShed, gas := .reset,
    atm := { t1 := .resetAt lines.flame.t1, t2 := .resetAt lines.flame.t2, t3 := .resetAt lines.flame.t3,
             t4 := .resetAt lines.flame.t4 },
    boat := { t1 := .resetAt lines.openLimit.t1 lines.closedLimit.t1,
              t2 := .resetAt lines.openLimit.t2 lines.closedLimit.t2,
              t3 := .resetAt lines.openLimit.t3 lines.closedLimit.t3,
              t4 := .resetAt lines.openLimit.t4 lines.closedLimit.t4 },
    faults := .resetAt lines.hydrogen lines.interlock lines.exhaust, config := .reset,
    time := { uptime := 0, offset := 0 }, link := .resetAt lines.rateStrap, lines := lines,
    inReset := held, pending := pending }

/-- The input lines of `State.reset` (DESIGN CHOICE, log entry 6). -/
def Lines.atReset : Lines :=
  { rateStrap := Config.rateStrapAtReset, loadShed := Config.lineLevelAtReset, hydrogen := Config.lineLevelAtReset,
    interlock := Config.lineLevelAtReset, exhaust := Config.lineLevelAtReset,
    flame := PerTube.all Config.lineLevelAtReset, openLimit := PerTube.all Config.lineLevelAtReset,
    closedLimit := PerTube.all Config.lineLevelAtReset }

/-- The machine right after reset: the reset has ended, nothing has arrived, no command waits (R177). -/
def State.reset : State := State.resetAt Lines.atReset false []

end Sys2Proof.Machine
end

