-- ==== Sys2Proof/Machine/Ops.lean ====
section
/-! DEFINITION. The named operations over the state that every family shares: numbering, reading and writing the
per-tube records, the time stamp, the notice queue and the transmit arbiter (R161, R162), the fault log (R151), and the
messages between blocks (`Task`) whose chain makes up one event. -/

namespace Sys2Proof

/-! ### Numbering (00_scope, Numbering) -/

/-- The tubes in order 1 to 4. -/
def Tube.list : List Tube := [.t1, .t2, .t3, .t4]

/-- The number of a tube. -/
def Tube.number : Tube → Nat
  | .t1 => 1
  | .t2 => 2
  | .t3 => 3
  | .t4 => 4

/-- The tube of a number, if it lies within 1 to 4. -/
def Tube.ofNumber : Nat → Option Tube
  | 1 => some .t1
  | 2 => some .t2
  | 3 => some .t3
  | 4 => some .t4
  | _ => none

/-- The zones in order 1 to 5. -/
def Zone.list : List Zone := [.z1, .z2, .z3, .z4, .z5]

/-- The number of a zone. -/
def Zone.number : Zone → Nat
  | .z1 => 1
  | .z2 => 2
  | .z3 => 3
  | .z4 => 4
  | .z5 => 5

/-- The lines in the order N2, O2, H2, AUX. -/
def GasLine.list : List GasLine := [.n2, .o2, .h2, .aux]

/-- The code of a gas line or header (R167). -/
def GasLine.code : GasLine → Nat
  | .n2 => 0
  | .o2 => 1
  | .h2 => 2
  | .aux => 3

/-- The fault kinds in ascending order of code. -/
def FaultKind.list : List FaultKind :=
  [.tcOpen, .overtemp, .tcDisagree, .deviation, .rampStalled, .powerStarved, .stepTimeout, .flowDeviation,
   .headerWaitTimeout, .purgeIncomplete, .ignitionFailed, .flameLost, .ratioClamped, .h2Detected, .interlockOpen,
   .exhaustLost, .shedActive, .boatStall, .shutterTimeout]

/-- The place of a kind in the tables of nineteen; its code is one more (8.1). -/
def FaultKind.index : FaultKind → Fin 19
  | .tcOpen => 0
  | .overtemp => 1
  | .tcDisagree => 2
  | .deviation => 3
  | .rampStalled => 4
  | .powerStarved => 5
  | .stepTimeout => 6
  | .flowDeviation => 7
  | .headerWaitTimeout => 8
  | .purgeIncomplete => 9
  | .ignitionFailed => 10
  | .flameLost => 11
  | .ratioClamped => 12
  | .h2Detected => 13
  | .interlockOpen => 14
  | .exhaustLost => 15
  | .shedActive => 16
  | .boatStall => 17
  | .shutterTimeout => 18

/-- The code of a fault kind, 1 to 19. -/
def FaultKind.code (k : FaultKind) : Nat := k.index.val + 1

/-- The kind of a code, if it lies within 1 to 19. -/
def FaultKind.ofCode (n : Nat) : Option FaultKind :=
  if n = 0 then none else FaultKind.list[n - 1]?

/-- The five fixed kinds (R139). -/
def FaultKind.fixed : FaultKind → Bool
  | .tcOpen | .overtemp | .flameLost | .h2Detected | .interlockOpen => true
  | _ => false

/-- Whether the kind sets the heater inhibit when it acts SAFE (R142, R147). -/
def FaultKind.inhibits : FaultKind → Bool
  | .tcOpen | .overtemp | .interlockOpen => true
  | _ => false

end Sys2Proof

namespace Sys2Proof.Machine

/-- What every meaning answers. -/
abbrev Out := Host.Outcome State Fault Refusal

/-- The zones of a tube with `n` active zones, in zone order (R46). -/
def activeZones (n : Nat) : List Zone := Zone.list.take n

/-- Zone position 5 × (tube − 1) + zone of the bank (R72). -/
def bankPosition (t : Tube) (z : Zone) : Nat := 5 * (t.number - 1) + z.number

/-- The twenty zone positions of the bank, in order. -/
def bankPositions : List (Tube × Zone) :=
  Tube.list.flatMap fun t => Zone.list.map fun z => (t, z)

/-! ### Writing the per-tube records -/

/-- Write a tube's run record. -/
def State.setRun (s : State) (t : Tube) (r : RunRec) : State := { s with run := s.run.set t r }

/-- Write a tube's thermal block. -/
def State.setThermal (s : State) (t : Tube) (r : ThermalRec) : State := { s with thermal := s.thermal.set t r }

/-- Write a tube's atmosphere record. -/
def State.setAtm (s : State) (t : Tube) (r : AtmRec) : State := { s with atm := s.atm.set t r }

/-- Write a tube's boat record. -/
def State.setBoat (s : State) (t : Tube) (r : BoatRec) : State := { s with boat := s.boat.set t r }

/-- Write the arbiter's records. -/
def State.setGas (s : State) (g : Gas) : State := { s with gas := g }

/-- Write the fault block's records. -/
def State.setFaults (s : State) (f : Faults) : State := { s with faults := f }

/-- Write the link controller's records. -/
def State.setLink (s : State) (l : Link) : State := { s with link := l }

/-- Write the recipe store. -/
def State.setStore (s : State) (st : Store) : State := { s with store := st }

/-- Write the allocator's records. -/
def State.setAlloc (s : State) (a : Alloc) : State := { s with alloc := a }

/-- Write a zone record of a thermal block. -/
def ThermalRec.setZone (r : ThermalRec) (z : Zone) (v : ZoneRec) : ThermalRec :=
  { r with zones := r.zones.set z v }

/-- The configuration record of a tube. -/
def State.tubeConfig (s : State) (t : Tube) : TubeConfig := s.config.tubes.get t

/-- The run state of a tube. -/
def State.runState (s : State) (t : Tube) : RunState := (s.run.get t).state

/-- A time stamp: offset plus uptime, modulo 2^32 (R176). -/
def State.stamp (s : State) : Nat := (s.time.offset + s.time.uptime) % 4294967296

/-! ### Recipes and steps -/

/-- One of the two lists of a recipe. -/
def Recipe.steps (r : Recipe) : ListSel → List Step
  | .main => r.main
  | .tail => r.tail

/-- The step of an index counted from 1. -/
def Recipe.step? (r : Recipe) (l : ListSel) (i : Nat) : Option Step :=
  if i = 0 then none else (r.steps l)[i - 1]?

/-- The recipe of a slot, absent while EMPTY. -/
def Store.recipe? (st : Store) (i : Fin 16) : Option Recipe := st.slots[i]

/-- Write a slot. -/
def Store.setSlot (st : Store) (i : Fin 16) (r : Option Recipe) : Store :=
  { st with slots := st.slots.set i.val r i.isLt }

/-- The recipe a tube's run record refers to. -/
def State.recipeOf (s : State) (t : Tube) : Option Recipe :=
  match (s.run.get t).recipe with
  | some i => s.store.recipe? i
  | none => none

/-- The current step of a tube's run. -/
def State.currentStep (s : State) (t : Tube) : Option Step :=
  match s.recipeOf t with
  | some r => r.step? (s.run.get t).list (s.run.get t).step
  | none => none

/-- Add to the in-use count of a slot (R9, R41). -/
def Store.borrow (st : Store) (i : Fin 16) : Store :=
  match st.recipe? i with
  | some r => st.setSlot i (some { r with inUse := r.inUse + 1 })
  | none => st

/-- Take from the in-use count of a slot (R17, R18, R41). -/
def Store.release (st : Store) (i : Fin 16) : Store :=
  match st.recipe? i with
  | some r => st.setSlot i (some { r with inUse := r.inUse - 1 })
  | none => st

/-! ### Replies, notices and the transmitter (R159 to R162) -/

/-- How many link replies wait in the reply queue (R159). -/
def Link.linkRepliesWaiting (l : Link) : Nat := (l.replies.filter fun r => !r.fromRequest).length

/-- Whether a request reply waits that has not begun transmission (R160). -/
def Link.requestReplyWaits (l : Link) : Bool := l.replies.any fun r => r.fromRequest

/-- The transmit arbiter: an idle transmitter begins the reply at the head of its queue, failing that the notice at
the head of its queue (R161). -/
def Link.arbitrate (l : Link) : Link :=
  match l.tx with
  | some _ => l
  | none =>
    match l.replies with
    | r :: rs => { l with tx := some (.reply r), replies := rs }
    | [] =>
      match l.notices with
      | n :: ns => { l with tx := some (.notice n), notices := ns }
      | [] => l

/-- Place a reply at the back of the reply queue; the arbiter then decides (R160, R161). -/
def Link.placeReply (l : Link) (r : Reply) : Link :=
  Link.arbitrate { l with replies := l.replies ++ [r] }

/-- Place a link reply, or discard it where 8 wait (R159). -/
def Link.placeLinkReply (l : Link) (r : Reply) : Link :=
  if l.linkRepliesWaiting < 8 then l.placeReply r else l

/-- Whether the enable of a notice's kind is on (R163). -/
def Enables.allows (e : Enables) : Notice → Bool
  | .stepEntered .. => e.stepEntered
  | .runEnded .. => e.runEnded
  | .faultActed .. => e.faultActed
  | .tubeState .. => e.tubeState

/-- The hand-over of a notice: discarded, queued (marked LOST where the lost flag was set), or dropped with the lost
flag set (R162). -/
def Link.queueNotice (l : Link) (n : Notice) : Link :=
  if l.enables.allows n then
    if l.notices.length < 32 then
      { l with notices := l.notices ++ [{ lost := l.lost, notice := n }], lost := false }
    else { l with lost := true }
  else l

/-! ### The fault log (R151) -/

/-- The wrap of the numbering: a record about to take the sequence 4 294 967 295 empties the log and takes 0. -/
def Faults.wrap (f : Faults) : Faults :=
  if f.nextSeq = 4294967295 then { f with log := [], nextSeq := 0 } else f

/-- Write one record with the next sequence number; a full log loses its oldest record. -/
def Faults.write (f : Faults) (r : LogRec) : Faults :=
  { f.wrap with
    log := (f.wrap.log ++ [{ r with seq := f.wrap.nextSeq }]).drop (f.wrap.log.length + 1 - 64)
    nextSeq := f.wrap.nextSeq + 1 }

/-! ### Demand, firing and the heater inhibit (R63, R65, R68, R81) -/

/-- An allocator zone record. -/
def Alloc.zone (a : Alloc) (t : Tube) (z : Zone) : AllocZone := (a.zones.get t).get z

/-- Write an allocator zone record. -/
def Alloc.setZone (a : Alloc) (t : Tube) (z : Zone) (v : AllocZone) : Alloc :=
  { a with zones := a.zones.set t ((a.zones.get t).set z v) }

/-- A demand published below the zone's firing lowers the firing to it (R81). -/
def Alloc.lowerFiring (a : Alloc) (t : Tube) (z : Zone) (d : Nat) : Alloc :=
  if d < (a.zone t z).firing then a.setZone t z { a.zone t z with firing := d } else a

/-- Write a zone's demand and publish it to the allocator. -/
def State.publishDemand (s : State) (t : Tube) (z : Zone) (d : Nat) : State :=
  { s.setThermal t ((s.thermal.get t).setZone z { (s.thermal.get t).zones.get z with demand := d }) with
    alloc := s.alloc.lowerFiring t z d }

/-- Publish a demand of 0 for every active zone of a tube. -/
def State.cutDemands (s : State) (t : Tube) : State :=
  (activeZones (s.tubeConfig t).activeZones).foldl (fun s z => s.publishDemand t z 0) s

/-- Set a tube's heater inhibit: every demand and firing becomes 0 in the same event (R63, R65, R81). A setting with
the cause FAULT takes the place of the cause IDLE; a setting with the cause IDLE leaves a set inhibit (log entry 14). -/
def State.setInhibit (s : State) (t : Tube) (cause : Inhibit) : State :=
  let th := s.thermal.get t
  let new := if cause = .idle ∧ th.inhibit ≠ .clear then th.inhibit else cause
  (s.setThermal t { th with inhibit := new }).cutDemands t

/-- Setpoint seeding of one zone (R56). -/
def ZoneRec.seed (z : ZoneRec) : ZoneRec :=
  match z.profile with
  | .temp v => { z with setpoint := v * 100, origin := v * 100, target := v * 100, remainder := 0, complete := true }
  | _ => z

/-- Apply a change to each active zone of a thermal block. -/
def ThermalRec.mapActive (r : ThermalRec) (n : Nat) (f : Zone → ZoneRec → ZoneRec) : ThermalRec :=
  (activeZones n).foldl (fun r z => r.setZone z (f z (r.zones.get z))) r

/-- Seed the active zones of a tube (R56). -/
def State.seed (s : State) (t : Tube) : State :=
  s.setThermal t ((s.thermal.get t).mapActive (s.tubeConfig t).activeZones fun _ z => z.seed)

/-- Clear a tube's heater inhibit; the clearing of a set inhibit seeds the active zones (R56, R65). -/
def State.clearInhibit (s : State) (t : Tube) : State :=
  match (s.thermal.get t).inhibit with
  | .clear => s
  | _ => (s.setThermal t { s.thermal.get t with inhibit := .clear }).seed t

/-- The constants of a zone in the bank the tube's pointer names (R66). -/
def State.tuning (s : State) (t : Tube) (z : Zone) : Tuning := (s.banks[(s.run.get t).bank]).get z

/-- Lower each active zone's demand that stands above its output limit (R68). -/
def State.limitDemands (s : State) (t : Tube) : State :=
  (activeZones (s.tubeConfig t).activeZones).foldl
    (fun s z =>
      if (s.tuning t z).lmax < ((s.thermal.get t).zones.get z).demand then s.publishDemand t z (s.tuning t z).lmax
      else s) s

/-- Move a tube's tuning-bank pointer; demands above a lowered limit fall at once (R3, R68). -/
def State.setBank (s : State) (t : Tube) (b : Fin 8) : State :=
  (s.setRun t { s.run.get t with bank := b }).limitDemands t

/-! ### What the run controller tells the thermal block (R4, R52, R55, R59) -/

/-- RAMP_STALLED is present while the holdback limit is non-zero and the counter exceeds it (R59). -/
def ThermalRec.stallHolds (r : ThermalRec) : Bool := r.params.holdback ≠ 0 && r.params.holdback < r.counter

/-- Judge RAMP_STALLED at a hand-over of parameters or a reset of the counter (R59). -/
def ThermalRec.judgeStall (r : ThermalRec) : ThermalRec := { r with stalled := r.stallHolds }

/-- Set the holdback counter to 0 (R59). -/
def ThermalRec.zeroCounter (r : ThermalRec) : ThermalRec := ThermalRec.judgeStall { r with counter := 0 }

/-- The hand-over of the ramp parameters (R4, R55). -/
def State.handOver (s : State) (t : Tube) : State :=
  s.setThermal t (ThermalRec.judgeStall { s.thermal.get t with params := (s.run.get t).params })

/-- The retarget of one zone's ramp to `v`, in 0.1 °C (R52). -/
def ZoneRec.retarget (z : ZoneRec) (v : Nat) : ZoneRec :=
  { z with origin := z.setpoint, target := v * 100, remainder := 0, complete := v * 100 = z.setpoint }

/-- Retarget the active zones with a list of targets in zone order (R52). -/
def State.retarget (s : State) (t : Tube) (targets : List Nat) : State :=
  s.setThermal t ((s.thermal.get t).mapActive (s.tubeConfig t).activeZones fun z r =>
    match targets[z.number - 1]? with
    | some v => r.retarget v
    | none => r)

/-- Stop one zone's ramp (R52). -/
def ZoneRec.stop (z : ZoneRec) : ZoneRec :=
  { z with origin := z.setpoint, target := z.setpoint, remainder := 0, complete := true }

/-- Stop every ramp of a tube (R25, R52). -/
def State.stopRamps (s : State) (t : Tube) : State :=
  s.setThermal t ((s.thermal.get t).mapActive (s.tubeConfig t).activeZones fun _ z => z.stop)

/-! ### One event: the messages between blocks -/

/-- What a block reports of a detection (R141). -/
structure Detection where
  tube : Tube
  kind : FaultKind
  place : Option Nat
  measured : Option Nat
  limit : Option Nat
  listStep : Option (ListSel × Nat)
deriving DecidableEq, Repr

/-- A message from block to block, or the next part of a block's work, within one event. Messages are taken depth
first: what a message gives rise to is done before the message that stood behind it (log entry 4). -/
inductive Task where
  | evaluate (t : Tube)
  | stepEnd (t : Tube)
  | enter (t : Tube) (l : ListSel) (i : Nat)
  | entryGas (t : Tube) (flows : PerLine (Option Nat))
  | entryMove (t : Tube) (target speed : Nat)
  | entryFinish (t : Tube)
  | release (t : Tube)
  | endRun (t : Tube) (result : RunResult) (cause : Cause)
  | idle (t : Tube)
  | enterHolding (t : Tube) (cause : Cause)
  | leaveHolding (t : Tube)
  | abort (t : Tube) (cause : Cause)
  | abortFinish (t : Tube) (cause : Cause)
  | enterSafe (t : Tube) (cause : Cause)
  | safeFinish (t : Tube) (cause : Cause)
  | action (t : Tube) (a : Applied) (kind : FaultKind)
  | stepElapsed (t : Tube)
  | stepTimeout (t : Tube)
  | detect (d : Detection)
  | bankDetect (l : BankLine)
  | shedDetect (measured limit : Nat)
  | shedActed (t : Tube) (a : Applied) (level : Nat) (tubeState : RunState) (seq stamp : Nat)
  | judgeSamples (t : Tube) (z : Zone)
  | rampStalled (t : Tube)
  | tempReport (t : Tube) (met : Bool)
  | powerStarved (t : Tube) (z : Zone)
  | headerWait (t : Tube)
  | flowDeviation (t : Tube) (l : GasLine)
  | examine
  | gasRequest (t : Tube) (flows : PerLine (Option Nat))
  | recompute (t : Tube) (withdrawn : Bool)
  | withdraw (t : Tube)
  | safeFlow (t : Tube)
  | atmReport (t : Tube)
  | atmTick (t : Tube)
  | purgeComplete (t : Tube)
  | purgeIncomplete (t : Tube)
  | ignitionTest (t : Tube)
  | ignitionFailed (t : Tube)
  | postFlowEnd (t : Tube)
  | moveRequest (t : Tube) (target speed : Nat)
  | moveStart (t : Tube)
  | boatStop (t : Tube)
  | boatHold (t : Tube) (on : Bool)
  | boatRelease (t : Tube)
  | boatReport (t : Tube)
  | settleTimeout (t : Tube)
  | shutterTimeout (t : Tube)
  | commissionTube (t : Tube)
deriving DecidableEq, Repr

/-- The state in the course of one event. `busy` marks the tubes whose run controller is in a step entry, an abort or
an entry into SAFE (such a run controller makes no evaluation, R10, log entry 37), and `deferred` the fault actions that
wait for its end (R10, log entry 10). `rampSet` marks the tubes whose run controller has entered a step with zone targets
or a ramp band in this event: the temperature view then waits for the next thermal tick (R14, R55). `serving` is on
while a request is served: its reply is formed before any notice of its effects (R161). -/
structure Ctx where
  s : State
  busy : PerTube Bool
  rampSet : PerTube Bool
  deferred : List (Tube × Applied × FaultKind)
  serving : Bool
deriving DecidableEq, Repr

/-- The beginning of an event. -/
def Ctx.start (s : State) (serving : Bool) : Ctx :=
  { s := s, busy := PerTube.all false, rampSet := PerTube.all false, deferred := [], serving := serving }

/-- Replace the state. -/
def Ctx.put (c : Ctx) (s : State) : Ctx := { c with s := s }

/-- Mark a tube's run controller busy, or free. -/
def Ctx.setBusy (c : Ctx) (t : Tube) (b : Bool) : Ctx := { c with busy := c.busy.set t b }

/-- Mark a tube whose run controller enters a step that carries zone targets or a ramp band. -/
def Ctx.markRamps (c : Ctx) (t : Tube) (carries : Bool) : Ctx :=
  { c with rampSet := c.rampSet.set t (c.rampSet.get t || carries) }

/-- Hand a notice to the link controller; outside a request's service the arbiter then decides (R161, R162). -/
def Ctx.notice (c : Ctx) (n : Notice) : Ctx :=
  let l := c.s.link.queueNotice n
  c.put (c.s.setLink (if c.serving then l else l.arbitrate))

/-- Change a tube's run state: the thermal block is told, an entry into IDLE or HOLDING resets the holdback counter
(R4, R59), and a TUBE_STATE notice is given (R7). -/
def Ctx.changeState (c : Ctx) (t : Tube) (new : RunState) (cause : Cause) : Ctx :=
  let old := c.s.runState t
  let th := { c.s.thermal.get t with runState := new }
  let th := if new = .idle ∨ new = .holding then th.zeroCounter else th
  let s := (c.s.setRun t { c.s.run.get t with state := new }).setThermal t th
  (c.put s).notice (.tubeState t new old cause s.stamp)

end Sys2Proof.Machine
end

