-- ==== Sys2Proof/Machine/Flags.lean ====
section
/-! DEFINITION. Every condition, class and judgement that the rules compute from the state without changing it:
end conditions, fault conditions, holding entries, power classes, the admission test, atmosphere classes, the start
conditions of a move. -/

namespace Sys2Proof.Machine

/-! ### End conditions (R15) -/

/-- Whether the end condition of the current step is met (R15). -/
def RunRec.condMet (r : RunRec) (st : Step) : Bool :=
  match st.endCond with
  | .time => st.duration ≤ r.timer
  | .temp => r.tempView
  | .boat => r.boatView
  | .gas => r.gasView
  | .all => r.tempView && r.boatView && r.gasView

/-- Whether evaluation is made in a run state (R15). -/
def RunState.walks : RunState → Bool
  | .running | .aborting => true
  | _ => false

/-- Whether a tube in a run state holds a run (R1). -/
def RunState.hasRun : RunState → Bool
  | .running | .holding | .aborting => true
  | _ => false

/-! ### Zones (R51, R54, R57, R60, R64) -/

/-- The control setpoint SP in 0.1 °C (R54). -/
def ZoneRec.sp (z : ZoneRec) : Nat := (z.setpoint + 50) / 100

/-- Whether a sample is open. -/
def Sample.open? : Sample → Bool
  | .isOpen => true
  | _ => false

/-- Whether a sample is a temperature above a limit; open and absent samples compare with nothing (R50). -/
def Sample.above (s : Sample) (limit : Nat) : Bool :=
  match s with
  | .temp v => limit < v
  | _ => false

/-- Whether the PV is a temperature within `band` of SP (R57, R60). -/
def ZoneRec.within (z : ZoneRec) (band : Nat) : Bool :=
  match z.profile with
  | .temp v => dist z.sp v ≤ band
  | _ => false

/-- The condition TC_OPEN (R49). -/
def ZoneRec.tcOpenHolds (z : ZoneRec) : Bool := z.profile.open? || z.spike.open?

/-- The condition OVERTEMP (R50). -/
def ZoneRec.overtempHolds (z : ZoneRec) (c : TubeConfig) : Bool :=
  z.profile.above c.maxTemp || z.spike.above c.elementLimit

/-- The difference that TC_DISAGREE tests, where both samples are temperatures and the profile sample is above
400.0 °C (R51). -/
def ZoneRec.disagreement (z : ZoneRec) : Option Nat :=
  match z.profile, z.spike with
  | .temp p, .temp s => if 4000 < p then some (dist p s) else none
  | _, _ => none

/-- The condition TC_DISAGREE (R51). -/
def ZoneRec.disagreeHolds (z : ZoneRec) (c : TubeConfig) : Bool :=
  match z.disagreement with
  | some d => c.disagreeLimit < d
  | none => false

/-- The distance that DEVIATION tests, where the zone is settled and its PV is a temperature (R64). -/
def ZoneRec.strayed (z : ZoneRec) (rs : RunState) : Option Nat :=
  match z.profile with
  | .temp v => if (rs = .running ∨ rs = .holding) ∧ z.complete then some (dist z.sp v) else none
  | _ => none

/-- The condition DEVIATION (R64). -/
def ZoneRec.deviationHolds (z : ZoneRec) (rs : RunState) (c : TubeConfig) : Bool :=
  match z.strayed rs with
  | some d => c.deviationBand < d
  | none => false

/-- Whether ramps may advance and held ticks are counted: RUNNING, ABORTING or IDLE with the heater inhibit clear
(R57, R59). -/
def ThermalRec.moves (r : ThermalRec) : Bool :=
  (r.runState = .running ∨ r.runState = .aborting ∨ r.runState = .idle) && r.inhibit = .clear

/-- Whether a zone's ramp is eligible to advance (R57). -/
def ThermalRec.eligible (r : ThermalRec) (z : ZoneRec) (starved : Bool) : Bool :=
  r.moves && (r.params.band = 0 || z.within r.params.band) && !starved

/-- Whether the thermal block finds the tube settled, as it reports for the temperature view (item 6 of R60, R14). -/
def ThermalRec.settled (r : ThermalRec) (n : Nat) : Bool :=
  (activeZones n).all fun z =>
    (r.zones.get z).complete && (r.zones.get z).within (if r.params.band = 0 then 20 else r.params.band)

/-- Whether any active zone of a tube satisfies a test. -/
def State.anyZone (s : State) (t : Tube) (p : ZoneRec → Bool) : Bool :=
  (activeZones (s.tubeConfig t).activeZones).any fun z => p ((s.thermal.get t).zones.get z)

/-! ### Power (R75 to R77) -/

/-- The effective budget B in watts that a pass uses (R75). -/
def State.effectiveBudget (s : State) : Nat :=
  match s.alloc.budget with
  | none => 0
  | some b => 1000 * (if s.alloc.shed then s.config.bank.shedBudget else b)

/-- Whether a zone position takes part in a pass (R76). -/
def State.takesPart (s : State) (t : Tube) (z : Zone) : Bool :=
  (s.tubeConfig t).status = .fitted && z.number ≤ (s.tubeConfig t).activeZones &&
    (s.thermal.get t).runState ≠ .offline && (s.thermal.get t).inhibit = .clear

/-- The power class of a zone (R77). -/
def powerClass (rs : RunState) (z : ZoneRec) : PowerClass :=
  if rs = .running ∨ rs = .holding then
    if z.complete then .soak else if z.origin < z.target then .ramp else .other
  else .other

/-- The rating of a zone in 0.1 kW. -/
def TubeConfig.rating (c : TubeConfig) (z : Zone) : Nat := c.ratings.getD (z.number - 1) 0

/-! ### Gas (R85, R88, R89, R91) -/

/-- The commands in force on a tube's four lines. -/
def Gas.commands (g : Gas) (t : Tube) : Flows :=
  let l := g.lines.get t
  { n2 := l.n2.command, o2 := l.o2.command, h2 := l.h2.command, aux := l.aux.command }

/-- The N2 readback of a tube as a reader takes it: 0 while absent (R87). -/
def Gas.n2Readback (g : Gas) (t : Tube) : Nat := (g.lines.get t).n2.readback.getD 0

/-- The tolerance of a line (R85). -/
def lineTolerance (scale : Nat) : Nat := scale * 5 / 100

/-- The granted sum of a header over the tubes that `keep` keeps (R88). -/
def Gas.grantedSum (g : Gas) (l : GasLine) (keep : Tube → Bool) : Nat :=
  ((Tube.list.filter keep).map fun t => (g.granted.get t).get l).sum

/-- Whether a flow set of a tube fits one header: the other three tubes' grants and its own flow lie within the limit
(R91). -/
def Gas.fits (g : Gas) (headers : Flows) (t : Tube) (f : Flows) (l : GasLine) : Bool :=
  g.grantedSum l (fun u => u ≠ t) + f.get l ≤ 1000 * headers.get l

/-- The admission test of R91. -/
def Gas.passes (g : Gas) (headers : Flows) (t : Tube) (f : Flows) : Bool :=
  GasLine.list.all fun l => g.fits headers t f l

/-- Whether a submission is a lowering: each flow at most the tube's grant (R89). -/
def Gas.isLowering (g : Gas) (t : Tube) (f : Flows) : Bool :=
  GasLine.list.all fun l => f.get l ≤ (g.granted.get t).get l

/-- A tube's entry in the gas wait queue. -/
def Gas.entry? (g : Gas) (t : Tube) : Option GasEntry := g.queue.find? fun e => e.tube = t

/-- The header that a HEADER_WAIT_TIMEOUT report names: the first that fails the admission test, or else the first on
which the entry raises its tube's grant (R95). -/
def Gas.blockingHeader (g : Gas) (headers : Flows) (e : GasEntry) : Option GasLine :=
  match GasLine.list.find? fun l => !g.fits headers e.tube e.flows l with
  | some l => some l
  | none => GasLine.list.find? fun l => (g.granted.get e.tube).get l < e.flows.get l

/-- Whether the tube's wait is past the timeout (R95). -/
def GasEntry.overdue (e : GasEntry) (timeout : Nat) : Bool := timeout ≠ 0 && timeout < e.age

/-! ### Atmosphere (R101, R103, R105, R108, R110, R115) -/

/-- The class of a set of flows (R101). -/
def classOf (f : Flows) : AtmClass :=
  if 0 < f.h2 then .steam else if 0 < f.aux then .doping else if 0 < f.o2 then .oxidizing else .inert

/-- The ratio limit of a set of flows (R103). -/
def ratioLimit (ratio o2 : Nat) : Nat := ratio * o2 / 100

/-- The requested flows after the ratio clamp (R103). -/
def clampFlows (ratio : Nat) (f : Flows) : Flows := { f with h2 := min f.h2 (ratioLimit ratio f.o2) }

/-- Whether a purge is needed between two classes, for a target reached otherwise than within LIT (R105). -/
def purgeNeeded (leaving target : AtmClass) : Bool :=
  target = .steam || (leaving ≠ target && (leaving = .doping || leaving = .steam || target = .doping))

/-- The purge flows (R108). -/
def TubeConfig.purgeFlows (c : TubeConfig) : Flows := { n2 := c.purgeN2, o2 := 0, h2 := 0, aux := 0 }

/-- The preflow flows of a target (R110). -/
def preflowFlows (target : Flows) : Flows := { target with h2 := 0, aux := 0 }

/-- The ignition change: the preflow flows with H2 at the ignition flow (R110). -/
def TubeConfig.ignitionFlows (c : TubeConfig) (target : Flows) : Flows :=
  { target with h2 := min c.ignitionH2 (min target.h2 (ratioLimit c.ratio target.o2)), aux := 0 }

/-- The extinguish flows: H2 and AUX shut, N2 and O2 as they stand (R115). -/
def extinguishFlows (inForce : Flows) : Flows := { inForce with h2 := 0, aux := 0 }

/-- The purge target volume in ml (R108). -/
def TubeConfig.purgeTarget (c : TubeConfig) : Nat := c.volume * 1000 * c.exchanges

/-- The purge limit time in s, with the quotient rounded up (R108). -/
def TubeConfig.purgeLimit (c : TubeConfig) : Nat := 3 * ((c.purgeTarget * 60 + (c.purgeN2 - 1)) / c.purgeN2)

/-- The state a phase is. -/
def Phase.state : Phase → AtmState
  | .stable => .stable
  | .purge => .purge
  | .preflow => .preflow
  | .ignite => .ignite
  | .lit => .lit

/-- Whether a change waits with the state left at PREFLOW or LIT (R106). -/
def AtmRec.marked (a : AtmRec) : Bool := a.awaited.isSome && (a.state = .preflow || a.state = .lit)

/-- The mark of the controller's report: whether the run controller's latest request, after the ratio clamp, is in
force (R102, R117). -/
def AtmRec.requestInForce (a : AtmRec) : Bool := a.inForce = a.runRequest

/-- The gas view that a report gives (R14, R102). -/
def AtmRec.view (a : AtmRec) : Bool := (a.state = .stable || a.state = .lit) && a.requestInForce

/-- Whether the torch is being prepared or burns, for the start conditions of a move (R125). -/
def AtmState.torch : AtmState → Bool
  | .preflow | .ignite | .lit => true
  | _ => false

/-- Whether the boat stands, for the ignition change (R110). -/
def BoatState.stands : BoatState → Bool
  | .ready | .waitCond => true
  | _ => false

/-- Whether the ignition change is made (R110). The boat's state stands for its latest report; after a reset, before any
report, that state is READY and the boat counts as standing: the model's choice (log entry 47). -/
def State.ignites (s : State) (t : Tube) : Bool :=
  let a := s.atm.get t
  a.state = .preflow && a.awaited.isNone && (s.tubeConfig t).preflowTime ≤ a.phaseTimer &&
    (s.boat.get t).state.stands && !a.flame

/-! ### Boat (R125, R128, R130, R131) -/

/-- What the boat block reads of its neighbours and its configuration (R121). -/
structure BoatEnv where
  n2 : Nat
  n2Min : Nat
  torch : Bool
  stallLimit : Nat
deriving DecidableEq, Repr

/-- The values the boat block of a tube reads. -/
def State.boatEnv (s : State) (t : Tube) : BoatEnv :=
  { n2 := s.gas.n2Readback t, n2Min := (s.tubeConfig t).boatN2Min, torch := (s.atm.get t).state.torch,
    stallLimit := (s.tubeConfig t).stallLimit }

/-- The start conditions of a move (R125). -/
def BoatRec.canStart (b : BoatRec) (e : BoatEnv) : Bool :=
  b.pos.isSome && b.measured.isSome && e.n2Min ≤ e.n2 && !e.torch && !b.holdFlag

/-- The distance between C and the measured position, where both are present. -/
def BoatRec.offset? (b : BoatRec) : Option Nat :=
  match b.pos, b.measured with
  | some c, some m => some (dist c m)
  | _, _ => none

/-- Whether the measured position lies within 1.0 mm of C (R130). -/
def BoatRec.within (b : BoatRec) : Bool :=
  match b.offset? with
  | some d => d ≤ 10
  | none => false

/-- Whether the measured position lies farther from C than the stall limit (R131). -/
def BoatRec.strays (b : BoatRec) (e : BoatEnv) : Bool :=
  match b.offset? with
  | some d => e.stallLimit < d
  | none => false

/-- The speed-table limit for a mouth sample (R128). -/
def speedLimit (table : List (Nat × Nat)) : Sample → Nat
  | .temp v => ((table.filter fun e => e.1 ≤ v).getLast?.map fun e => e.2).getD 600
  | _ => (table.getLast?.map fun e => e.2).getD 10

/-- The mouth sample as the boat block reads it: the profile sample of zone 1 (R121). -/
def State.mouth (s : State) (t : Tube) : Sample := (s.thermal.get t).zones.z1.profile

/-- The boat view that a report gives (R14): READY with no move pending. -/
def BoatRec.view (b : BoatRec) : Bool := b.state = .ready && b.target.isNone

/-! ### Faults (R139, R141, R143, R144, R149) -/

/-- The policy record of a kind. -/
def Faults.policyOf (f : Faults) (k : FaultKind) : PolicyRec := f.policy[k.index]

/-- A tube's status entry of a kind. -/
def Faults.entry? (f : Faults) (t : Tube) (k : FaultKind) : Option Entry := (f.entries.get t)[k.index]

/-- Write a tube's status entry of a kind, or remove it. -/
def Faults.setEntry (f : Faults) (t : Tube) (k : FaultKind) (e : Option Entry) : Faults :=
  { f with entries := f.entries.set t ((f.entries.get t).set k.index.val e k.index.isLt) }

/-- Whether the tube's entry of a kind is a holding entry (R143). -/
def Faults.holdingEntry (f : Faults) (t : Tube) (k : FaultKind) : Bool :=
  match f.entry? t k with
  | some e => e.acted && (f.policyOf k).action ≠ .advisory
  | none => false

/-- Whether the tube holds a holding entry (R8, R21). -/
def Faults.anyHolding (f : Faults) (t : Tube) : Bool := FaultKind.list.any fun k => f.holdingEntry t k

/-- Whether the tube holds an acted entry whose kind carries SAFE (check 3 of R26). -/
def Faults.anySafe (f : Faults) (t : Tube) : Bool :=
  FaultKind.list.any fun k =>
    match f.entry? t k with
    | some e => e.acted && (f.policyOf k).action = .safe
    | none => false

/-- The condition of a bank line follows its level (R149). -/
def Faults.lineCondition (f : Faults) : BankLine → Bool
  | .hydrogen => f.hydrogen
  | .interlock => !f.interlock
  | .exhaust => !f.exhaust

/-- The kind a bank line raises (R149). -/
def bankLineKind : BankLine → FaultKind
  | .hydrogen => .h2Detected
  | .interlock => .interlockOpen
  | .exhaust => .exhaustLost

/-- The condition that CLEAR_FAULTS tests for a kind in a tube, read from its owner (R144). -/
def State.condition (s : State) (t : Tube) : FaultKind → Bool
  | .tcOpen => s.anyZone t fun z => z.tcOpen
  | .overtemp => s.anyZone t fun z => z.overtemp
  | .tcDisagree => s.anyZone t fun z => z.disagree
  | .deviation => s.anyZone t fun z => z.deviation
  | .rampStalled => (s.thermal.get t).stalled
  | .powerStarved => Zone.list.any fun z => (s.alloc.zone t z).starvedCond
  | .flowDeviation => GasLine.list.any fun l => ((s.gas.lines.get t).get l).deviation
  | .headerWaitTimeout => ((s.gas.entry? t).map fun e => e.timedOut).getD false
  | .purgeIncomplete => (s.atm.get t).incomplete
  | .h2Detected => s.faults.lineCondition .hydrogen
  | .interlockOpen => s.faults.lineCondition .interlock
  | .exhaustLost => s.faults.lineCondition .exhaust
  | .shedActive => s.alloc.shedActive
  | .stepTimeout | .ignitionFailed | .flameLost | .ratioClamped | .boatStall | .shutterTimeout => false

/-- The fixed-kind conditions that refuse RECOVER (check 2 of R26). -/
def State.recoverBlocked (s : State) (t : Tube) : Bool :=
  s.anyZone t (fun z => z.profile.open? || z.spike.open?) || s.anyZone t (fun z => z.overtemp) ||
    s.faults.hydrogen || !s.faults.interlock

/-- The applied action of a detection that acts, by the kind's action and the tube's run state (R141). -/
def applyTable : PolicyAction → RunState → Applied
  | .advisory, _ => .advisory
  | .hold, .running => .hold
  | .hold, .holding => .hold
  | .hold, _ => .none
  | .abort, .running => .abort
  | .abort, .holding => .abort
  | .abort, .aborting => .escalated
  | .abort, _ => .none
  | .safe, _ => .safe

/-- The grading of a detection: nothing for an OFFLINE tube or a disabled kind; masked at or below the mask level
(R141). -/
def grade (p : PolicyRec) (rs : RunState) (mask : Nat) : Option Applied :=
  if rs = .offline ∨ p.enable = false then none
  else if p.level ≤ mask then some .none
  else some (applyTable p.action rs)

/-- Whether an applied action is HOLD or stronger (R142). -/
def Applied.strong : Applied → Bool
  | .hold | .abort | .safe | .escalated => true
  | _ => false

/-- The order of applied actions for the one record of SHED_ACTIVE (R150). -/
def Applied.rank : Applied → Nat
  | .none => 0
  | .advisory => 1
  | .hold => 2
  | .abort => 3
  | .safe => 4
  | .escalated => 5

end Sys2Proof.Machine
end

