-- ==== Sys2Proof/Machine/Gas.lean ====
section
/-! DEFINITION. The gas supply arbiter (chapter 5): commands and valves, submissions, the gas wait queue and its
examination, the safety flow, readbacks, the arbiter's work at a gas tick. -/

namespace Sys2Proof.Machine

/-! ### Commands and valves (R86, R98) -/

/-- Write a command to a line with its valve. A command the line already holds is not a new command; a new one restarts
the line's deviation records (R86, R98). -/
def LineRec.write (r : LineRec) (l : GasLine) (cmd : Nat) : LineRec :=
  if r.command = cmd then r
  else { r with command := cmd, valve := l = .n2 || 0 < cmd, age := 0, devRun := 0, raised := false,
                deviation := false }

/-- Write the commands of a tube's four lines. -/
def Gas.writeLines (g : Gas) (t : Tube) (f : Flows) : Gas :=
  let l := g.lines.get t
  let written : PerLine LineRec :=
    { n2 := l.n2.write .n2 f.n2, o2 := l.o2.write .o2 f.o2, h2 := l.h2.write .h2 f.h2,
      aux := l.aux.write .aux f.aux }
  { g with lines := g.lines.set t written }

/-- Put a tube's flows in force: grants, commands, valves; a set safety flag is cleared (R89, R91, R92, R96). -/
def Gas.grant (g : Gas) (t : Tube) (f : Flows) : Gas :=
  Gas.writeLines { g with granted := g.granted.set t f, safety := g.safety.set t false } t f

/-- Remove a tube's entry from the gas wait queue; the entries behind it keep their order (R90). -/
def Gas.removeEntry (g : Gas) (t : Tube) : Gas := { g with queue := g.queue.filter fun e => e.tube ≠ t }

/-! ### Submissions (R89, R91) -/

/-- The outcomes of a submission (R94). -/
inductive Verdict where
  | applied | queued | replaced
deriving DecidableEq, Repr

/-- The arbiter's judgement of a submission: the records after it, the outcome it reports, and whether an examination
of the queue follows (R89, R91). -/
def Gas.submit (g : Gas) (headers : Flows) (t : Tube) (f : Flows) : Gas × Verdict × Bool :=
  if g.isLowering t f then
    ((g.removeEntry t).grant t f, .applied,
      (g.entry? t).isSome || GasLine.list.any fun l => f.get l < (g.granted.get t).get l)
  else if (g.entry? t).isSome then
    ({ g with queue := g.queue.map fun e => if e.tube = t then { e with flows := f } else e }, .replaced,
      (g.queue.head?.map fun e => decide (e.tube = t)).getD false)
  else if g.queue = [] ∧ g.passes headers t f then (g.grant t f, .applied, false)
  else ({ g with queue := g.queue ++ [{ tube := t, flows := f, age := 0, timedOut := false }] }, .queued, false)

/-- One step of an examination: the head entry is admitted if it passes; answers the admitted tube (R92). -/
def Gas.admitHead (g : Gas) (headers : Flows) : Option (Gas × Tube) :=
  match g.queue with
  | [] => none
  | e :: rest =>
    if g.passes headers e.tube e.flows then some (Gas.grant { g with queue := rest } e.tube e.flows, e.tube) else none

/-- The entry of a tube into the safety flow, items 1 to 5 (R96). -/
def Gas.enterSafety (g : Gas) (t : Tube) (safetyN2 : Nat) : Gas :=
  let g := (g.removeEntry t).writeLines t { n2 := safetyN2, o2 := 0, h2 := 0, aux := 0 }
  { g with granted := g.granted.set t (PerLine.all 0), safety := g.safety.set t true }

/-- Write a flow readback (R87). -/
def Gas.writeReadback (g : Gas) (t : Tube) (l : GasLine) (v : Nat) : Gas :=
  let ls := g.lines.get t
  { g with lines := g.lines.set t (ls.set l { ls.get l with readback := some (satAt 65535 v) }) }

/-! ### The gas tick (R95, R97, R98) -/

/-- The distance between a line's readback and its command, where a readback has arrived (R98). -/
def LineRec.offset? (r : LineRec) : Option Nat := r.readback.map fun v => dist v r.command

/-- One gas tick of a line of full scale `scale`; an unfitted line is not judged (R97, R98). -/
def LineRec.tick (r : LineRec) (scale : Nat) : LineRec :=
  if scale = 0 then r
  else
    let r := { r with age := satAt 65535 (r.age + 1) }
    if r.age < 15 then r
    else
      let far := (r.offset?.map fun d => decide (lineTolerance scale < d)).getD false
      let n := if far then satAt 10 (r.devRun + 1) else 0
      { r with devRun := n, deviation := n = 10 }

/-- The arbiter's own work at a tube's gas tick, before its reports (R97). -/
def Gas.tick (g : Gas) (t : Tube) (scale : Flows) : Gas :=
  let l := g.lines.get t
  let ticked : PerLine LineRec :=
    { n2 := l.n2.tick scale.n2, o2 := l.o2.tick scale.o2, h2 := l.h2.tick scale.h2, aux := l.aux.tick scale.aux }
  { g with
    queue := g.queue.map fun e => if e.tube = t then { e with age := satAt 65535 (e.age + 1) } else e
    lines := g.lines.set t ticked }

/-- Whether a line's deviation is to be reported: its run stands at 10 and it has not been reported under the command in
force (R98). -/
def LineRec.due (r : LineRec) : Bool := r.devRun = 10 && !r.raised

/-- Whether the gas tick that has just counted a line reports its deviation: only a fitted line whose change age has
reached 15 s is judged at a tick (R98). -/
def LineRec.dueAtTick (r : LineRec) (scale : Nat) : Bool := 0 < scale && 15 ≤ r.age && r.due

/-- Set the raised flag of a line that its gas tick reports (R98). -/
def LineRec.raiseAtTick (r : LineRec) (scale : Nat) : LineRec :=
  if r.dueAtTick scale then { r with raised := true } else r

/-- Set the raised flags of a tube's lines that its gas tick reports (R98). -/
def Gas.raiseDue (g : Gas) (t : Tube) (scale : Flows) : Gas :=
  let l := g.lines.get t
  let raised : PerLine LineRec :=
    { n2 := l.n2.raiseAtTick scale.n2, o2 := l.o2.raiseAtTick scale.o2, h2 := l.h2.raiseAtTick scale.h2,
      aux := l.aux.raiseAtTick scale.aux }
  { g with lines := g.lines.set t raised }

/-- The detection FLOW_DEVIATION of a line of full scale `scale` (R98). -/
def lineDetection (t : Tube) (l : GasLine) (scale : Nat) (r : LineRec) : Task :=
  .detect { tube := t, kind := .flowDeviation, place := some l.code, measured := r.offset?,
            limit := some (lineTolerance scale), listStep := none }

/-- The FLOW_DEVIATION reports of a tube that its gas tick makes, in the order N2, O2, H2, AUX (R98, log entry 41). -/
def Gas.dueReports (g : Gas) (t : Tube) (scale : Flows) : List Task :=
  GasLine.list.flatMap fun l =>
    if ((g.lines.get t).get l).dueAtTick (scale.get l) then [lineDetection t l (scale.get l) ((g.lines.get t).get l)] else []

/-- The gas tick of a tube: the arbiter's work, which decides every FLOW_DEVIATION report of the tick before any report
acts, then its reports, then the atmosphere controller's work (R97, R98, R107, log entries 11 and 41). -/
def gasTickStart (t : Tube) (c : Ctx) : Ctx × List Task :=
  if c.s.runState t = .offline then (c, [])
  else
    let scale := (c.s.tubeConfig t).scale
    let g := c.s.gas.tick t scale
    (c.put (c.s.setGas (g.raiseDue t scale)), [.headerWait t] ++ g.dueReports t scale ++ [.atmTick t])

/-- The onset of HEADER_WAIT_TIMEOUT and its report (R95). -/
def taskHeaderWait (t : Tube) (c : Ctx) : Ctx × List Task :=
  let g := c.s.gas
  let bank := c.s.config.bank
  match g.entry? t with
  | some e =>
    if e.overdue bank.waitTimeout ∧ e.timedOut = false then
      (c.put (c.s.setGas
          { g with queue := g.queue.map fun e => if e.tube = t then { e with timedOut := true } else e }),
        [.detect { tube := t, kind := .headerWaitTimeout,
                   place := (g.blockingHeader bank.headers e).map GasLine.code, measured := some e.age,
                   limit := some bank.waitTimeout, listStep := none }])
    else (c, [])
  | none => (c, [])

/-- The report of FLOW_DEVIATION of one line, once per command, as the row of that name makes it (R98, log entry 3). -/
def taskFlowDeviation (t : Tube) (l : GasLine) (c : Ctx) : Ctx × List Task :=
  let g := c.s.gas
  let ls := g.lines.get t
  let r := ls.get l
  if c.s.runState t ≠ .offline ∧ r.due then
    (c.put (c.s.setGas { g with lines := g.lines.set t (ls.set l { r with raised := true }) }),
      [lineDetection t l ((c.s.tubeConfig t).scale.get l) r])
  else (c, [])

end Sys2Proof.Machine
end

