-- ==== Sys2Proof/Machine/Atmosphere.lean ====
section
/-! DEFINITION. The atmosphere controllers (chapter 6): gas requests, the path to a target, the purge, the torch, the
safe state. -/

namespace Sys2Proof.Machine

/-! ### Outcomes of the arbiter (R106) -/

/-- Take the flows the arbiter reports as the flows in force; flows other than the purge flows empty the purged mark,
but for the preflow and ignition flows of a path that a completed purge began (R106). -/
def AtmRec.takeFlows (a : AtmRec) (cfg : TubeConfig) (f : Flows) (keepPurged : Bool) : AtmRec :=
  { a with inForce := f, cls := classOf f, purged := a.purged && (keepPurged || f = cfg.purgeFlows) }

/-- Entry into PURGE (R108). -/
def AtmRec.beginPurge (a : AtmRec) (cfg : TubeConfig) : AtmRec :=
  { a with state := .purge, purgeTarget := cfg.purgeTarget, purgeVolume := 0, purgeRemainder := 0, purgeTimer := 0,
           purgeLimit := cfg.purgeLimit, incomplete := false }

/-- Entry into a phase from another state: what it sets (R106, R108, R110, R111). -/
def AtmRec.enterPhase (a : AtmRec) (cfg : TubeConfig) (p : Phase) : AtmRec :=
  if a.state = p.state then a
  else
    match p with
    | .purge => a.beginPurge cfg
    | .preflow => { a with state := .preflow, phaseTimer := 0 }
    | .ignite => { a with state := .ignite, phaseTimer := 0, igniter := true }
    | .stable => { a with state := .stable }
    | .lit => { a with state := .lit }

/-- APPLIED or ADMITTED: enter the awaited phase and take the reported flows (R106). -/
def AtmRec.land (a : AtmRec) (cfg : TubeConfig) (p : Phase) (f : Flows) : AtmRec :=
  { (a.takeFlows cfg f (p = .preflow || p = .ignite)).enterPhase cfg p with awaited := none }

/-- QUEUED or REPLACED: the awaited phase is kept; a change made from PREFLOW or LIT leaves the state, any other waits
in WAIT_HEADER (R106). -/
def AtmRec.wait (a : AtmRec) (p : Phase) (origin : WaitOrigin) : AtmRec :=
  if a.state = .preflow ∨ a.state = .lit then { a with awaited := some p }
  else { a with state := .waitHeader, awaited := some p, waitOrigin := origin }

/-- The messages that follow a change of the controller: its report to the run controller, the ignition test where it
is due, `mid`, and the new state to the boat block (R102, R110, R125, log entry 33). The test is made whenever the change
stands in PREFLOW, so also where a marked preflow change that is submitted again is applied at once (log entry 42). -/
def atmTasks (t : Tube) (old new : AtmRec) (mid : List Task) : List Task :=
  [.atmReport t] ++ (if new.state = .preflow then [.ignitionTest t] else []) ++ mid ++
    (if old.state = new.state then [] else [.moveStart t])

/-- Submit a change of flows that leads to the phase `p`, and act on the outcome (R89, R106). -/
def submitChange (t : Tube) (f : Flows) (p : Phase) (origin : WaitOrigin) (c : Ctx) : Ctx × List Task :=
  let a := c.s.atm.get t
  let r := c.s.gas.submit c.s.config.bank.headers t f
  let a' := match r.2.1 with
    | .applied => a.land (c.s.tubeConfig t) p (r.1.commands t)
    | _ => a.wait p origin
  (c.put ((c.s.setGas r.1).setAtm t a'), atmTasks t a a' (if r.2.2 then [.examine] else []))

/-- Enter EXTINGUISH with the extinguish flows, which are applied at once (R115). `mid` is what the event does before
the new state reaches the boat block. -/
def extinguish (t : Tube) (mid : List Task) (c : Ctx) : Ctx × List Task :=
  let a := c.s.atm.get t
  let r := c.s.gas.submit c.s.config.bank.headers t (extinguishFlows a.inForce)
  let a' := { a.takeFlows (c.s.tubeConfig t) (r.1.commands t) false with
    awaited := none, igniter := false, state := .extinguish, phaseTimer := 0, purgeOrigin := .steam }
  (c.put ((c.s.setGas r.1).setAtm t a'), atmTasks t a a' ((if r.2.2 then [.examine] else []) ++ mid))

/-- One entry of an examination of the queue from its head (R92). -/
def taskExamine (c : Ctx) : Ctx × List Task :=
  match c.s.gas.admitHead c.s.config.bank.headers with
  | some (g, t) =>
    let a := c.s.atm.get t
    let a' := match a.awaited with
      | some p => a.land (c.s.tubeConfig t) p (g.commands t)
      | none => a.takeFlows (c.s.tubeConfig t) (g.commands t) false
    (c.put ((c.s.setGas g).setAtm t a'), atmTasks t a a' [] ++ [.examine])
  | none => (c, [])

/-! ### The path to a target (R105, R116) -/

/-- The path from STABLE, the tube leaving the class `leaving` (R105). -/
def pathFromStable (t : Tube) (leaving : AtmClass) (origin : WaitOrigin) (c : Ctx) : Ctx × List Task :=
  let a := c.s.atm.get t
  if a.targetClass = .steam || (purgeNeeded leaving a.targetClass && !a.purged) then
    submitChange t (c.s.tubeConfig t).purgeFlows .purge origin
      (c.put (c.s.setAtm t { a with purgeOrigin := leaving }))
  else submitChange t a.target .stable origin c

/-- The continuation at the end of a completed purge (R109). -/
def continuation (t : Tube) (c : Ctx) : Ctx × List Task :=
  let a := c.s.atm.get t
  if a.targetClass = .steam then submitChange t (preflowFlows a.target) .preflow .purgeDone c
  else submitChange t a.target .stable .purgeDone c

/-- The change that a PREFLOW with a marked change submits again (R116). -/
def AtmRec.remark (a : AtmRec) (cfg : TubeConfig) : Flows × Phase :=
  match a.awaited with
  | some .ignite => (cfg.ignitionFlows a.target, .ignite)
  | _ => (preflowFlows a.target, .preflow)

/-- Recompute the path toward the target from the present state (R105, R116); `withdrawn` marks the recomputation that
follows a withdrawal, in which a purge change waiting after an extinguish is submitted again (R117). In PURGE the need is
judged by the two classes alone, whatever the purged mark: the model's choice (log entry 43). -/
def taskRecompute (t : Tube) (withdrawn : Bool) (c : Ctx) : Ctx × List Task :=
  let a := c.s.atm.get t
  let cfg := c.s.tubeConfig t
  let steam := a.targetClass = .steam
  match a.state with
  | .stable | .safeFlow => pathFromStable t a.cls .stable c
  | .waitHeader =>
    match a.waitOrigin with
    | .stable => pathFromStable t a.cls .stable c
    | .extinguish => if withdrawn then submitChange t cfg.purgeFlows .purge .extinguish c else (c, [])
    | .purgeDone => continuation t c
    | .purgeSuperseded => pathFromStable t a.purgeOrigin .purgeSuperseded c
  | .purge =>
    if purgeNeeded a.purgeOrigin a.targetClass then (c, [])
    else submitChange t a.target .stable .purgeSuperseded (c.put (c.s.setAtm t { a with incomplete := false }))
  | .preflow =>
    if steam then
      if a.awaited.isSome then submitChange t (a.remark cfg).1 (a.remark cfg).2 .stable c
      else if preflowFlows a.target = a.inForce then (c, [])
      else submitChange t (preflowFlows a.target) .preflow .stable c
    else extinguish t [] c
  | .ignite => if steam then (c, []) else extinguish t [] c
  | .lit => if steam then submitChange t a.target .lit .stable c else extinguish t [] c
  | .extinguish => (c, [])

/-- Merge a gas request into the requested flows (item 1 of R104). -/
def mergeFlows (old : Flows) (new : PerLine (Option Nat)) : Flows :=
  { n2 := new.n2.getD old.n2, o2 := new.o2.getD old.o2, h2 := new.h2.getD old.h2, aux := new.aux.getD old.aux }

/-- A gas request from the run controller (R104). -/
def taskGasRequest (t : Tube) (flows : PerLine (Option Nat)) (c : Ctx) : Ctx × List Task :=
  let a := c.s.atm.get t
  let ratio := (c.s.tubeConfig t).ratio
  let requested := mergeFlows a.requested flows
  let target := clampFlows ratio requested
  let limit := ratioLimit ratio requested.o2
  (c.put (c.s.setAtm t { a with
      requested := requested, target := target, targetClass := classOf target, fallback := false,
      runRequest := target }),
    (if limit < requested.h2 then
      [.detect { tube := t, kind := .ratioClamped, place := none, measured := some requested.h2, limit := some limit,
                 listStep := none }] else []) ++
    (if a.safeHold then [] else [.recompute t false]))

/-- The withdrawal of a tube's waiting change at an abort (R93, R117). The path is recomputed as for a request for the
flows in force; for a recovered tube still in the safety flow that is a raising from grants of 0, judged by R91, which
may wait again: the model's choice (log entry 44). -/
def taskWithdraw (t : Tube) (c : Ctx) : Ctx × List Task :=
  match c.s.gas.entry? t with
  | none => (c, [])
  | some _ =>
    let a := c.s.atm.get t
    let a' := { a with requested := a.inForce, target := a.inForce, targetClass := classOf a.inForce,
                       fallback := false, awaited := none }
    (c.put ((c.s.setGas (c.s.gas.removeEntry t)).setAtm t a'), [.recompute t true, .examine])

/-! ### Reports, ticks and the torch (R102, R107 to R115) -/

/-- The controller's report to the run controller, which keeps its gas view from it (R14, R102). -/
def taskAtmReport (t : Tube) (c : Ctx) : Ctx × List Task :=
  let v := (c.s.atm.get t).view
  let r := c.s.run.get t
  (c.put (c.s.setRun t { r with gasView := v }), if v = r.gasView then [] else [.evaluate t])

/-- The integration of one tick of a purge (R108). -/
def AtmRec.integrate (a : AtmRec) (readback : Nat) : AtmRec :=
  { a with
    purgeTimer := satAt 65535 (a.purgeTimer + 1)
    purgeVolume := satAt 4294967295 (a.purgeVolume + (a.purgeRemainder + readback) / 60)
    purgeRemainder := (a.purgeRemainder + readback) % 60 }

/-- The controller's work at the gas tick, by its state (R107). -/
def taskAtmTick (t : Tube) (c : Ctx) : Ctx × List Task :=
  let a := c.s.atm.get t
  let counted := { a with phaseTimer := satAt 65535 (a.phaseTimer + 1) }
  if c.s.runState t = .offline then (c, [])
  else
    match a.state with
    | .purge =>
      (c.put (c.s.setAtm t (a.integrate (c.s.gas.n2Readback t))), [.purgeComplete t, .purgeIncomplete t])
    | .preflow => (c.put (c.s.setAtm t counted), [.ignitionTest t])
    | .ignite => (c.put (c.s.setAtm t counted), [.ignitionFailed t])
    | .extinguish => (c.put (c.s.setAtm t counted), [.postFlowEnd t])
    | _ => (c, [])

/-- The end of a purge whose volume is reached (R109). -/
def taskPurgeComplete (t : Tube) (c : Ctx) : Ctx × List Task :=
  let a := c.s.atm.get t
  if a.state = .purge ∧ a.purgeTarget ≤ a.purgeVolume then
    continuation t (c.put (c.s.setAtm t { a with purged := true, incomplete := false }))
  else (c, [])

/-- The onset of PURGE_INCOMPLETE and its report (R109). -/
def taskPurgeIncomplete (t : Tube) (c : Ctx) : Ctx × List Task :=
  let a := c.s.atm.get t
  if a.state = .purge ∧ a.purgeVolume < a.purgeTarget ∧ a.purgeLimit ≤ a.purgeTimer ∧ a.incomplete = false then
    (c.put (c.s.setAtm t { a with incomplete := true }),
      [.detect { tube := t, kind := .purgeIncomplete, place := none, measured := some a.purgeVolume,
                 limit := some a.purgeTarget, listStep := none }])
  else (c, [])

/-- The test of the ignition change (R110). -/
def taskIgnitionTest (t : Tube) (c : Ctx) : Ctx × List Task :=
  if c.s.ignites t then
    submitChange t ((c.s.tubeConfig t).ignitionFlows (c.s.atm.get t).target) .ignite .stable c
  else (c, [])

/-- The failure of an ignition: extinguish, fallback target, report (R113). -/
def taskIgnitionFailed (t : Tube) (c : Ctx) : Ctx × List Task :=
  let a := c.s.atm.get t
  let cfg := c.s.tubeConfig t
  if a.state = .ignite ∧ cfg.ignitionTimeout ≤ a.phaseTimer then
    extinguish t
      [.detect { tube := t, kind := .ignitionFailed, place := none, measured := some a.phaseTimer,
                 limit := some cfg.ignitionTimeout, listStep := none }]
      (c.put (c.s.setAtm t { a with target := cfg.purgeFlows, targetClass := .inert, fallback := true }))
  else (c, [])

/-- The end of the post-flow time (R115). -/
def taskPostFlowEnd (t : Tube) (c : Ctx) : Ctx × List Task :=
  let a := c.s.atm.get t
  let cfg := c.s.tubeConfig t
  if a.state = .extinguish ∧ cfg.postFlowTime ≤ a.phaseTimer then
    submitChange t cfg.purgeFlows .purge .extinguish c
  else (c, [])

/-- The level of the flame-sense line, as the line and as the controller see it. -/
def State.setFlame (s : State) (t : Tube) (high : Bool) : State :=
  { s.setAtm t { s.atm.get t with flame := high } with lines := { s.lines with flame := s.lines.flame.set t high } }

/-- A rising flame-sense edge (R111, R112). -/
def flameRise (t : Tube) (c : Ctx) : Ctx × List Task :=
  let c := c.put (c.s.setFlame t true)
  let a := c.s.atm.get t
  if a.state = .ignite then
    submitChange t a.target .lit .stable (c.put (c.s.setAtm t { a with igniter := false, state := .lit }))
  else (c, [])

/-- A falling flame-sense edge: a flame loss in LIT, the ignition test in PREFLOW (R110, R114). Before an entry into SAFE
from another cause, FLAME_LOST itself takes the tube to SAFE (R114), where R120 has it find the tube there already: the
model's choice (log entry 46). -/
def flameFall (t : Tube) (c : Ctx) : Ctx × List Task :=
  let c := c.put (c.s.setFlame t false)
  let a := c.s.atm.get t
  if a.state = .lit then
    extinguish t
      [.detect { tube := t, kind := .flameLost, place := none, measured := some a.inForce.h2, limit := none,
                 listStep := none }] c
  else (c, [.ignitionTest t])

/-! ### The safe state (R96, R118) -/

/-- The controller's part in the tube's entry into SAFE, with the arbiter's entry into the safety flow (R96, R118). The
boat block is not told of SAFE_FLOW here, so that its stop of the same entry comes first and a boat in WAIT_COND does not
start (R25, R125, log entry 38). -/
def taskSafeFlow (t : Tube) (c : Ctx) : Ctx × List Task :=
  let a := c.s.atm.get t
  let g := c.s.gas.enterSafety t (c.s.tubeConfig t).safetyN2
  (c.put ((c.s.setGas g).setAtm t { a with
      igniter := false, state := .safeFlow, safeHold := true, awaited := none, phaseTimer := 0, purged := false,
      incomplete := false, inForce := g.commands t, cls := .inert }),
    [.atmReport t, .examine])

/-- The tube has left SAFE: the safe hold is cleared (R118). -/
def State.leaveSafe (s : State) (t : Tube) : State := s.setAtm t { s.atm.get t with safeHold := false }

end Sys2Proof.Machine
end

