-- ==== Sys2Proof/Machine/Boat.lean ====
section
/-! DEFINITION. The boat blocks (chapter 7): the move and its phases, settling, pause, retarget, stop, stall, the
shutter. -/

namespace Sys2Proof.Machine

/-! ### The shutter outputs (R122) -/

/-- The open output of the shutter: driven while the shutter is OPENING (R122). -/
def BoatRec.openOutput (b : BoatRec) : Bool := b.shutter = .opening

/-- The close output of the shutter: driven while the shutter is CLOSING (R122). -/
def BoatRec.closeOutput (b : BoatRec) : Bool := b.shutter = .closing

/-! ### The phases of a move (R122, R124 to R126, R130) -/

/-- C as a stop or a release leaves it: the measured position, or C where that is absent (R131, R132, R135). -/
def BoatRec.posMeasured (b : BoatRec) : Option Nat :=
  match b.measured with
  | some m => some m
  | none => b.pos

/-- The move is done: READY with no move pending (R124, R130). -/
def BoatRec.moveDone (b : BoatRec) : BoatRec :=
  { b with state := .ready, target := none, failed := false, closePending := false, speedCmd := 0 }

/-- The settled move: its closing phase begins, or it is done (R122, R130). -/
def BoatRec.settled (b : BoatRec) : BoatRec :=
  if b.closePending then
    if b.closedLimit then BoatRec.moveDone { b with shutter := .closed }
    else { b with state := .shutterClosing, shutter := .closing, phaseTimer := 0, speedCmd := 0 }
  else b.moveDone

/-- The direction from the measured position toward C (R130, log entry 29). -/
def BoatRec.towardC (b : BoatRec) : Direction :=
  match b.pos, b.measured with
  | some c, some m => if m < c then .inward else if c < m then .outward else b.direction
  | _, _ => b.direction

/-- The judgement of SETTLE (R130). -/
def BoatRec.judgeSettle (b : BoatRec) : BoatRec :=
  if b.within then b.settled else { b with speedCmd := 10, direction := b.towardC }

/-- Entry into SETTLE (R130). -/
def BoatRec.enterSettle (b : BoatRec) : BoatRec := BoatRec.judgeSettle { b with state := .settle, phaseTimer := 0 }

/-- What follows an opening phase that has ended with the shutter OPEN (R126). -/
def BoatRec.openingEnd (b : BoatRec) (e : BoatEnv) : BoatRec :=
  match b.target with
  | none => { b with state := .ready, pos := b.posMeasured }
  | some x =>
    if b.pos = some x then b.enterSettle
    else if b.canStart e then { b with state := .travel, remainder := 0 }
    else { b with state := .waitCond, speedCmd := 0 }

/-- The beginning of an opening phase (R122). -/
def BoatRec.startOpening (b : BoatRec) (e : BoatEnv) : BoatRec :=
  if b.openLimit then BoatRec.openingEnd { b with shutter := .opened } e
  else { b with state := .shutterOpening, shutter := .opening, phaseTimer := 0, speedCmd := 0 }

/-- The judgement of the start conditions for a move that stands at C (R124, R125). -/
def BoatRec.judgeStart (b : BoatRec) (e : BoatEnv) : BoatRec :=
  if b.canStart e then
    if b.shutter = .opened then { b with state := .travel } else b.startOpening e
  else { b with state := .waitCond, speedCmd := 0 }

/-- A move request reaching a boat in READY (R124). -/
def BoatRec.takeMove (b : BoatRec) (e : BoatEnv) (target speed : Nat) : BoatRec :=
  let b := { b with target := some target, stepSpeed := speed, failed := false, remainder := 0,
                    closePending := target = 0 }
  if b.pos = some target then b.moveDone else b.judgeStart e

/-- What follows a closing phase that has ended (R130, R134, R135). -/
def BoatRec.closingEnd (b : BoatRec) (e : BoatEnv) : BoatRec :=
  match b.target with
  | none => { b with state := .ready, pos := b.posMeasured }
  | some x => if b.pos = some x then b.moveDone else b.takeMove e x b.stepSpeed

/-- A move request reaching a boat in any state (R124, R134). -/
def BoatRec.request (b : BoatRec) (e : BoatEnv) (target speed : Nat) : BoatRec :=
  let n := { b with target := some target, stepSpeed := speed, failed := false, closePending := target = 0 }
  match b.state with
  | .ready => b.takeMove e target speed
  | .waitCond => if n.pos = some target then n.moveDone else n.judgeStart e
  | .shutterOpening => n
  | .travel => if n.pos = some target then BoatRec.enterSettle { n with remainder := 0 } else { n with remainder := 0 }
  | .paused => { n with remainder := 0 }
  | .settle => if n.pos = some target then n else { n with state := .travel, remainder := 0 }
  | .shutterClosing => n
  | .stalled => b

/-! ### Stop, release, hold and pause (R131, R133, R135) -/

/-- A stop by an abort or the safe state (R135). -/
def BoatRec.stop (b : BoatRec) : BoatRec :=
  match b.state with
  | .ready => { b with target := none, failed := false }
  | .waitCond | .travel | .paused | .settle =>
    { b with state := .ready, speedCmd := 0, pos := b.posMeasured, target := none, failed := false,
             closePending := false, remainder := 0, pauseHold := false, pauseN2 := false }
  | .shutterOpening | .shutterClosing => { b with target := none, failed := false, closePending := false }
  | .stalled => b

/-- The release of a STALLED boat (R131). -/
def BoatRec.release (b : BoatRec) : BoatRec :=
  if b.state = .stalled then
    { b with state := .ready, pos := b.posMeasured, target := none, failed := false, closePending := false,
             remainder := 0, pauseHold := false, pauseN2 := false }
  else b

/-- A failed move kept in a READY boat becomes absent when a RUN is taken (R9, R132). -/
def BoatRec.dropFailed (b : BoatRec) : BoatRec :=
  if b.state = .ready ∧ b.failed then { b with target := none, failed := false } else b

/-- Whether a pause reason stands. -/
def BoatRec.pauses (b : BoatRec) : Bool := b.pauseHold || b.pauseN2

/-- The boat after its pause reasons have changed: TRAVEL pauses while a reason stands, PAUSED resumes when the last is
gone (R133). -/
def BoatRec.repause (b : BoatRec) : BoatRec :=
  match b.state with
  | .travel => if b.pauses then { b with state := .paused, speedCmd := 0 } else b
  | .paused => if b.pauses then b else { b with state := .travel }
  | _ => b

/-- The run controller tells the block that the tube has entered HOLDING, or left it for RUNNING (R125, R133). -/
def BoatRec.setHold (b : BoatRec) (e : BoatEnv) (on : Bool) : BoatRec :=
  let b := { b with holdFlag := on }
  match b.state with
  | .travel | .paused => BoatRec.repause { b with pauseHold := on }
  | .waitCond => b.judgeStart e
  | _ => b

/-- An N2 readback arrival (R125, R133). -/
def BoatRec.nitrogen (b : BoatRec) (e : BoatEnv) : BoatRec :=
  match b.state with
  | .travel | .paused => BoatRec.repause { b with pauseN2 := e.n2 < e.n2Min }
  | .waitCond => b.judgeStart e
  | _ => b

/-! ### Travel (R127, R131) -/

/-- Items 1 to 4 of the motion tick in TRAVEL, with `limit` the speed-table limit (R127). -/
def BoatRec.travelTick (b : BoatRec) (limit : Nat) : BoatRec :=
  match b.pos, b.target with
  | some c, some x =>
    let v := min b.stepSpeed (min limit 600)
    let a := b.remainder + 10 * v
    { b with
      effSpeed := v
      remainder := a % 60
      pos := some (if dist x c ≤ a / 60 then x else if c < x then c + a / 60 else c - a / 60)
      speedCmd := v
      direction := if c < x then .inward else if x < c then .outward else b.direction }
  | _, _ => b

/-- Item 6 of the motion tick: SETTLE once C has reached the target (R127). -/
def BoatRec.arrive (b : BoatRec) : BoatRec := if b.pos = b.target then b.enterSettle else b

/-- The stall of a boat (R131). -/
def BoatRec.stall (b : BoatRec) : BoatRec := { b with state := .stalled, speedCmd := 0 }

/-- Count the phase timer (R126, R130). -/
def BoatRec.countPhase (b : BoatRec) : BoatRec := { b with phaseTimer := satAt 65535 (b.phaseTimer + 1) }

/-- A shutter phase that has timed out (R132). -/
def BoatRec.shutterFail (b : BoatRec) : BoatRec :=
  { b with shutter := .closed, pos := b.posMeasured, remainder := 0, closePending := false,
           failed := b.target.isSome, state := .ready }

/-! ### The block's part in an event -/

/-- Write a tube's boat record, with a report where the boat state, or whether a move is pending, has changed (R123). -/
def putBoat (t : Tube) (b : BoatRec) (c : Ctx) : Ctx × List Task :=
  let old := c.s.boat.get t
  (c.put (c.s.setBoat t b),
    if old.state = b.state ∧ old.target.isSome = b.target.isSome then [] else [.boatReport t])

/-- Put a tube's boat into STALLED and report BOAT_STALL with `limit` (R131). -/
def stallBoat (t : Tube) (b : BoatRec) (limit : Nat) (c : Ctx) : Ctx × List Task :=
  (c.put (c.s.setBoat t b.stall),
    [.boatReport t,
     .detect { tube := t, kind := .boatStall, place := none, measured := b.offset?, limit := some limit,
               listStep := none }])

/-- The report of the boat block: the run controller keeps its boat view from it, and the atmosphere controller tests
its ignition change (R14, R110, R123). -/
def taskBoatReport (t : Tube) (c : Ctx) : Ctx × List Task :=
  let v := (c.s.boat.get t).view
  let r := c.s.run.get t
  (c.put (c.s.setRun t { r with boatView := v }),
    (if v = r.boatView then [] else [.evaluate t]) ++ [.ignitionTest t])

/-- A move request. A move done at once is reported even where nothing has changed (R124). -/
def taskMoveRequest (t : Tube) (target speed : Nat) (c : Ctx) : Ctx × List Task :=
  let b := c.s.boat.get t
  let r := putBoat t (b.request (c.s.boatEnv t) target speed) c
  if b.state = .ready ∧ b.pos = some target then (r.1, [.boatReport t]) else r

/-- A move waiting in WAIT_COND starts once its start conditions hold (R125). -/
def taskMoveStart (t : Tube) (c : Ctx) : Ctx × List Task :=
  let b := c.s.boat.get t
  if b.state = .waitCond then putBoat t (b.judgeStart (c.s.boatEnv t)) c else (c, [])

/-- The stop of an abort or of the safe state; the tube is no longer HOLDING (R133, R135). -/
def taskBoatStop (t : Tube) (c : Ctx) : Ctx × List Task :=
  putBoat t { (c.s.boat.get t).stop with holdFlag := false } c

/-- The hold flag (R133). -/
def taskBoatHold (t : Tube) (on : Bool) (c : Ctx) : Ctx × List Task :=
  putBoat t ((c.s.boat.get t).setHold (c.s.boatEnv t) on) c

/-- The release of a STALLED boat at a RUN or a RECOVER (R131). -/
def taskBoatRelease (t : Tube) (c : Ctx) : Ctx × List Task := putBoat t (c.s.boat.get t).release c

/-- The settle timeout (R130, R131). -/
def taskSettleTimeout (t : Tube) (c : Ctx) : Ctx × List Task :=
  let b := c.s.boat.get t
  if b.state = .settle ∧ 10 < b.phaseTimer ∧ b.within = false then stallBoat t b 10 c else (c, [])

/-- The timeout of a shutter phase (R132). -/
def taskShutterTimeout (t : Tube) (c : Ctx) : Ctx × List Task :=
  let b := c.s.boat.get t
  if (b.state = .shutterOpening ∨ b.state = .shutterClosing) ∧ 30 < b.phaseTimer then
    (c.put (c.s.setBoat t b.shutterFail),
      [.boatReport t,
       .detect { tube := t, kind := .shutterTimeout, place := none, measured := some b.phaseTimer, limit := some 30,
                 listStep := none }])
  else (c, [])

/-- The arrival of a measured position (R123, R125, R130, R131). -/
def positionArrival (t : Tube) (v : Nat) (c : Ctx) : Ctx × List Task :=
  let b := c.s.boat.get t
  let e := c.s.boatEnv t
  let m := satAt 65535 v
  match b.pos with
  | none =>
    let b := { b with measured := some m, pos := some m }
    match b.state with
    | .waitCond => putBoat t (if b.target = some m then b.moveDone else b.judgeStart e) c
    | _ => putBoat t b c
  | some _ =>
    let b := { b with measured := some m }
    match b.state with
    | .waitCond => putBoat t (b.judgeStart e) c
    | .travel => if b.strays e then stallBoat t b e.stallLimit c else putBoat t b c
    | .settle => putBoat t b.judgeSettle c
    | _ => putBoat t b c

/-- The motion tick (R126, R127, R130). In READY, WAIT_COND, PAUSED and STALLED it does nothing. -/
def motionTick (t : Tube) (c : Ctx) : Ctx × List Task :=
  let b := c.s.boat.get t
  let e := c.s.boatEnv t
  match b.state with
  | .travel =>
    let b := b.travelTick (speedLimit b.speedTable (c.s.mouth t))
    if b.strays e then stallBoat t b e.stallLimit c else putBoat t b.arrive c
  | .settle =>
    let r := putBoat t b.countPhase.judgeSettle c
    (r.1, r.2 ++ [.settleTimeout t])
  | .shutterOpening | .shutterClosing =>
    (c.put (c.s.setBoat t b.countPhase), [.shutterTimeout t])
  | _ => (c, [])

/-- An edge of the open limit input (R122, R126). -/
def openLimitEdge (t : Tube) (rising : Bool) (c : Ctx) : Ctx × List Task :=
  let c := c.put { c.s with lines := { c.s.lines with openLimit := c.s.lines.openLimit.set t rising } }
  let b : BoatRec := { c.s.boat.get t with openLimit := rising }
  if rising ∧ b.shutter = .opening then
    let b : BoatRec := { b with shutter := .opened }
    if b.state = .shutterOpening then putBoat t (b.openingEnd (c.s.boatEnv t)) c else putBoat t b c
  else putBoat t b c

/-- An edge of the closed limit input (R122, R130). -/
def closedLimitEdge (t : Tube) (rising : Bool) (c : Ctx) : Ctx × List Task :=
  let c := c.put { c.s with lines := { c.s.lines with closedLimit := c.s.lines.closedLimit.set t rising } }
  let b : BoatRec := { c.s.boat.get t with closedLimit := rising }
  if rising ∧ b.shutter = .closing then
    let b : BoatRec := { b with shutter := .closed }
    if b.state = .shutterClosing then putBoat t (b.closingEnd (c.s.boatEnv t)) c else putBoat t b c
  else putBoat t b c

/-- A flow readback arrival; a nitrogen readback reaches the boat block too (R87, R125, R133). -/
def flowReadback (t : Tube) (l : GasLine) (g : Gas) (c : Ctx) : Ctx × List Task :=
  let c := c.put (c.s.setGas g)
  if l = .n2 then putBoat t ((c.s.boat.get t).nitrogen (c.s.boatEnv t)) c else (c, [])

end Sys2Proof.Machine
end

