-- ==== Sys2Proof/Machine/Faults.lean ====
section
/-! DEFINITION. The fault block (chapter 8): what follows from a detection, the bank lines. -/

namespace Sys2Proof.Machine

/-! ### Detections (R141 to R143, R146, R147, R151) -/

/-- The grading of a detection of a kind in a tube, as everything stands (R141). -/
def State.gradeIn (s : State) (t : Tube) (k : FaultKind) : Option Applied :=
  grade (s.faults.policyOf k) (s.runState t) (s.run.get t).mask

/-- The status entry after a recorded detection (R143). -/
def updateEntry (old : Option Entry) (acts : Bool) (stamp : Nat) : Entry :=
  match old with
  | some e => { e with count := satAt 255 (e.count + 1), acted := e.acted || acts }
  | none => { count := 1, acted := acts, stamp := stamp }

/-- Items 1 and 2 of R142: the status entry, and an empty first-fault pointer where the action is HOLD or stronger
(R143, R146). -/
def Faults.record (f : Faults) (t : Tube) (k : FaultKind) (ap : Applied) (stamp : Nat) : Faults :=
  let f := f.setEntry t k (some (updateEntry (f.entry? t k) (ap ≠ .none) stamp))
  if ap.strong ∧ f.pointer.get t = none then { f with pointer := f.pointer.set t (some k) } else f

/-- The log record of a detection in a tube; its sequence number is given at the writing (R151). -/
def State.logRecord (s : State) (d : Detection) (ap : Applied) : LogRec :=
  let r := s.run.get d.tube
  { seq := 0, stamp := s.stamp, tube := some d.tube, kind := d.kind, level := (s.faults.policyOf d.kind).level,
    action := ap, tubeState := some r.state, mask := some r.mask,
    listStep := if r.recipe.isSome then (match d.listStep with | some p => some p | none => some (r.list, r.step))
                else none,
    place := d.place, measured := d.measured, limit := d.limit }

/-- Item 6 of R142: the action goes to the tube's run controller, or waits for the end of the step entry, abort or SAFE
entry that the run controller is in (R10, log entry 10). -/
def handAction (t : Tube) (ap : Applied) (k : FaultKind) (c : Ctx) : Ctx × List Task :=
  if ap.strong then
    if c.busy.get t then ({ c with deferred := c.deferred ++ [(t, ap, k)] }, []) else (c, [.action t ap k])
  else (c, [])

/-- What the fault block does with a reported detection (R141, R142). -/
def taskDetect (d : Detection) (c : Ctx) : Ctx × List Task :=
  match c.s.gradeIn d.tube d.kind with
  | none => (c, [])
  | some ap =>
    let s := c.s
    let rec1 := s.logRecord d ap
    let f := s.faults.record d.tube d.kind ap s.stamp
    let s := s.setFaults (f.write rec1)
    let s := if d.kind.inhibits ∧ ap = .safe then s.setInhibit d.tube .fault else s
    let c' := c.put s
    let c' := if ap = .none then c'
      else c'.notice (.faultActed d.tube d.kind rec1.level ap (c.s.runState d.tube) f.wrap.nextSeq c.s.stamp)
    handAction d.tube ap d.kind c'

/-! ### Bank lines (R149, R150) -/

/-- A bank-line detection: every tube in order 1 to 4 (R150). -/
def taskBankDetect (l : BankLine) (c : Ctx) : Ctx × List Task :=
  (c, Tube.list.map fun t =>
    .detect { tube := t, kind := bankLineKind l, place := none, measured := none, limit := none, listStep := none })

/-- The stronger of two applied actions (R150). -/
def Applied.stronger (a b : Applied) : Applied := if a.rank < b.rank then b else a

/-- A SHED_ACTIVE detection: every tube is graded first, one record is written for the bank, and the notices and actions
of the tubes follow (R150). -/
def taskShedDetect (measured limit : Nat) (c : Ctx) : Ctx × List Task :=
  let s := c.s
  let graded := Tube.list.filterMap fun t => (s.gradeIn t .shedActive).map fun ap => (t, ap)
  match graded with
  | [] => (c, [])
  | _ :: _ =>
    let f := graded.foldl (fun f p => f.record p.1 .shedActive p.2 s.stamp) s.faults
    let level := (s.faults.policyOf .shedActive).level
    let rec1 : LogRec :=
      { seq := 0, stamp := s.stamp, tube := none, kind := .shedActive, level := level,
        action := graded.foldl (fun a p => a.stronger p.2) .none, tubeState := none, mask := none, listStep := none,
        place := none, measured := some measured, limit := some limit }
    (c.put (s.setFaults (f.write rec1)),
      graded.map fun p => .shedActed p.1 p.2 level (s.runState p.1) f.wrap.nextSeq s.stamp)

/-- Items 5 and 6 of R142 for one tube of a SHED_ACTIVE detection (R150). -/
def taskShedActed (t : Tube) (a : Applied) (level : Nat) (tubeState : RunState) (seq stamp : Nat) (c : Ctx) :
    Ctx × List Task :=
  handAction t a .shedActive
    (if a = .none then c else c.notice (.faultActed t .shedActive level a tubeState seq stamp))

/-- Write the level of a bank line (R149). -/
def Faults.setLine (f : Faults) (l : BankLine) (v : Bool) : Faults :=
  match l with
  | .hydrogen => { f with hydrogen := v }
  | .interlock => { f with interlock := v }
  | .exhaust => { f with exhaust := v }

/-- Write the level of a bank line among the input lines. -/
def Lines.setBank (x : Lines) (l : BankLine) (v : Bool) : Lines :=
  match l with
  | .hydrogen => { x with hydrogen := v }
  | .interlock => { x with interlock := v }
  | .exhaust => { x with exhaust := v }

/-- An edge of a bank line: an onset in a commissioned bank raises the detection (R149). -/
def bankLineEdge (l : BankLine) (rising : Bool) (c : Ctx) : Ctx × List Task :=
  let f := c.s.faults.setLine l rising
  (c.put { c.s.setFaults f with lines := c.s.lines.setBank l rising },
    if c.s.config.locked && f.lineCondition l && !c.s.faults.lineCondition l then [.bankDetect l] else [])

end Sys2Proof.Machine
end

