-- ==== Sys2Proof/Machine/Power.lean ====
section
/-! DEFINITION. The power allocator (chapter 4): the allocation pass, the rotation of the leftover watts, starvation,
the load-shed line. -/

namespace Sys2Proof.Machine

/-- What a pass reads and decides of one zone position before it serves the classes (R76, R77). A zone that does not
take part has its demand in watts, grant, firing, starved flag, timer and condition cleared; it keeps the power class
that the latest pass in which it took part gave it (log entry 40). -/
def State.enrol (s : State) (t : Tube) (z : Zone) (a : AllocZone) : AllocZone :=
  let zr := (s.thermal.get t).zones.get z
  if s.takesPart t z then
    { a with part := true, cls := powerClass (s.thermal.get t).runState zr,
             watts := (s.tubeConfig t).rating z * zr.demand / 10 }
  else
    { a with part := false, watts := 0, grant := 0, starved := false, firing := 0, timer := 0, starvedCond := false }

/-- Apply a change to every zone position of the bank. -/
def Alloc.mapZones (a : Alloc) (f : Tube → Zone → AllocZone → AllocZone) : Alloc :=
  bankPositions.foldl (fun a p => a.setZone p.1 p.2 (f p.1 p.2 (a.zone p.1 p.2))) a

/-- Whether a zone record takes part in a class. -/
def AllocZone.inClass (z : AllocZone) (k : PowerClass) : Bool := z.part && z.cls = k

/-- The sum of a value over the zones of a class. -/
def Alloc.classSum (a : Alloc) (k : PowerClass) (f : AllocZone → Nat) : Nat :=
  (bankPositions.map fun p => if (a.zone p.1 p.2).inClass k then f (a.zone p.1 p.2) else 0).sum

/-- The positions from a rotation pointer upward and round from 20 to 1 (R79). -/
def rotated (pointer : Nat) : List (Tube × Zone) :=
  bankPositions.drop (pointer - 1) ++ bankPositions.take (pointer - 1)

/-- Hand the leftover watts out one at a time to the zones of the class whose grant lies below their demand (R79). -/
def handOut (k : PowerClass) : List (Tube × Zone) → Nat → Alloc → Alloc
  | [], _, a => a
  | _ :: _, 0, a => a
  | p :: ps, n + 1, a =>
    let z := a.zone p.1 p.2
    if z.inClass k && z.grant < z.watts then
      handOut k ps n (a.setZone p.1 p.2 { z with grant := z.grant + 1 })
    else handOut k ps (n + 1) a

/-- The next position of a rotation pointer, from 20 to 1 (R79). -/
def nextPointer (p : Nat) : Nat := if p = 20 then 1 else p + 1

/-- Serve one class from the remainder `r`, answering the remainder that is left (R78, R79). -/
def Alloc.serve (a : Alloc) (k : PowerClass) (r : Nat) : Alloc × Nat :=
  let sum := a.classSum k (fun z => z.watts)
  if sum ≤ r then
    ({ a.mapZones (fun _ _ z => if z.inClass k then { z with grant := z.watts } else z) with
       results := a.results.set k { demand := sum, granted := sum, short := false } }, r - sum)
  else
    let floored := a.mapZones fun _ _ z => if z.inClass k then { z with grant := z.watts * r / sum } else z
    let left := r - floored.classSum k (fun z => z.grant)
    let full := handOut k (rotated (a.pointers.get k)) left floored
    ({ full with
       results := full.results.set k
         { demand := sum, granted := full.classSum k (fun z => z.grant), short := true }
       pointers := full.pointers.set k (nextPointer (full.pointers.get k)) }, 0)

/-- What a zone takes from its grant: the starved flag, the firing and the starve timer (R80, R82). The onset of
POWER_STARVED is judged by `taskPowerStarved`. -/
def AllocZone.settle (z : AllocZone) (demand rating limit : Nat) : AllocZone :=
  if z.part then
    let starved : Bool := z.grant < z.watts
    let timer := if z.cls = .soak ∧ starved then satAt 65535 (z.timer + 1) else 0
    { z with
      starved := starved
      firing := if starved then z.grant * 10 / rating else if z.watts = 0 then 0 else demand
      timer := timer
      starvedCond := z.starvedCond && limit ≤ timer }
  else z

/-- The allocation pass up to its reports (R75 to R82). -/
def State.allocate (s : State) : State :=
  let b := s.effectiveBudget
  let a := { s.alloc.mapZones s.enrol with effective := b }
  let (a, r) := a.serve .soak b
  let (a, r) := a.serve .ramp r
  let (a, _) := a.serve .other r
  s.setAlloc (a.mapZones fun t z az =>
    az.settle ((s.thermal.get t).zones.get z).demand ((s.tubeConfig t).rating z) (s.tubeConfig t).starveLimit)

/-- The onset of POWER_STARVED in a zone and its report (R82). -/
def taskPowerStarved (t : Tube) (z : Zone) (c : Ctx) : Ctx × List Task :=
  let az := c.s.alloc.zone t z
  let limit := (c.s.tubeConfig t).starveLimit
  if az.part ∧ az.cls = .soak ∧ az.starved ∧ limit ≤ az.timer ∧ az.starvedCond = false then
    (c.put (c.s.setAlloc (c.s.alloc.setZone t z { az with starvedCond := true })),
      [.detect { tube := t, kind := .powerStarved, place := some z.number, measured := some az.timer,
                 limit := some limit, listStep := none }])
  else (c, [])

/-- SHED_ACTIVE becomes present and is reported, in a commissioned bank whose shed state is asserted (R74). -/
def shedOnset (c : Ctx) : Ctx × List Task :=
  if c.s.config.locked ∧ c.s.alloc.shed ∧ c.s.alloc.shedActive = false then
    (c.put (c.s.setAlloc { c.s.alloc with shedActive := true }),
      [.shedDetect (c.s.effectiveBudget / 1000) (c.s.alloc.budget.getD 0)])
  else (c, [])

/-- An edge of the load-shed line (R74). -/
def shedEdge (rising : Bool) (c : Ctx) : Ctx × List Task :=
  let a := c.s.alloc
  let c := c.put { c.s.setAlloc { a with shed := rising, shedActive := a.shedActive && rising } with
                   lines := { c.s.lines with loadShed := rising } }
  shedOnset c

end Sys2Proof.Machine
end

