-- ==== Sys2Proof/Machine/Runs.lean ====
section
/-! DEFINITION. The run controllers (chapter 1): step entry and end, the run's end, holding, abort, the safe state, idle
behaviour, fault actions, timers. -/

namespace Sys2Proof.Machine

/-! ### Evaluation and step end (R13, R15 to R17) -/

/-- Whether a step carries zone targets or a ramp band, at whose entry the temperature view becomes not met (R14). -/
def Step.setsRamps (st : Step) : Bool := st.targets.isSome || st.band.isSome

/-- Evaluate the end condition of the current step (R15). A run controller in a step entry makes no evaluation (R10), and
neither does one in the middle of an abort or of an entry into SAFE, whose state is still the old one (log entry 37). -/
def taskEvaluate (t : Tube) (c : Ctx) : Ctx × List Task :=
  let r := c.s.run.get t
  match c.s.currentStep t with
  | some st => (c, if r.state.walks && !c.busy.get t && r.condMet st then [.stepEnd t] else [])
  | none => (c, [])

/-- The end of a step: the next of its list is entered, or the run ends (R17). -/
def taskStepEnd (t : Tube) (c : Ctx) : Ctx × List Task :=
  let r := c.s.run.get t
  match c.s.recipeOf t with
  | some rc =>
    if r.step < (rc.steps r.list).length then (c, [.enter t r.list (r.step + 1)])
    else (c, [.endRun t (match r.list with | .main => .completed | .tail => .aborted) .listEnd])
  | none => (c, [])

/-- A TIME step whose timer has reached its duration ends (R13). -/
def taskStepElapsed (t : Tube) (c : Ctx) : Ctx × List Task :=
  let r := c.s.run.get t
  match c.s.currentStep t with
  | some st =>
    (c, if r.state.walks && !c.busy.get t && st.endCond = .time && st.duration ≤ r.timer then [.stepEnd t] else [])
  | none => (c, [])

/-- STEP_TIMEOUT, raised once in a step (R16). -/
def taskStepTimeout (t : Tube) (c : Ctx) : Ctx × List Task :=
  let r := c.s.run.get t
  match c.s.currentStep t with
  | some st =>
    if r.state.walks && !c.busy.get t && st.endCond ≠ .time && st.duration ≤ r.timer && !r.condMet st &&
        !r.timeoutRaised then
      (c.put (c.s.setRun t { r with timeoutRaised := true }),
        [.detect { tube := t, kind := .stepTimeout, place := none, measured := none, limit := none,
                   listStep := some (r.list, r.step) }])
    else (c, [])
  | none => (c, [])

/-- The expiry of a run controller's one-second timer (R13). -/
def stepTimerTick (t : Tube) (c : Ctx) : Ctx × List Task :=
  let r := c.s.run.get t
  if r.state.walks then
    (c.put (c.s.setRun t { r with timer := satAt 65535 (r.timer + 1) }), [.evaluate t, .stepTimeout t])
  else (c, [])

/-! ### Step entry (R10, R11) -/

/-- Whether a step carries any gas field (item 3 of R10). -/
def Step.hasGas (st : Step) : Bool := st.flows.n2.isSome || st.flows.o2.isSome || st.flows.h2.isSome || st.flows.aux.isSome

/-- The ramp parameters with a step's fields applied (R11). -/
def RampParams.apply (p : RampParams) (st : Step) : RampParams :=
  { rate := st.rate.getD p.rate, band := st.band.getD p.band, holdback := st.holdback.getD p.holdback,
    lockstep := st.lockstep.getD p.lockstep }

/-- Items 1 and 2 of a step entry: the fields applied to the run record, the pointer moved, parameters and targets
handed over (R10, R11, R14). -/
def State.applyStep (s : State) (t : Tube) (st : Step) : State :=
  let r := s.run.get t
  let s := s.setRun t { r with
    params := r.params.apply st, mask := st.mask.getD r.mask,
    tempView := if st.setsRamps then false else r.tempView }
  let s := match st.bank with
    | some b => s.setBank t b
    | none => s
  let s := s.handOver t
  match st.targets with
  | some l => s.retarget t l
  | none => s

/-- Entry into a step: the run controller is busy until its entry is complete (R10). -/
def taskEnter (t : Tube) (l : ListSel) (i : Nat) (c : Ctx) : Ctx × List Task :=
  let c := (c.put (c.s.setRun t { c.s.run.get t with list := l, step := i })).setBusy t true
  match c.s.currentStep t with
  | some st =>
    ((c.put (c.s.applyStep t st)).markRamps t st.setsRamps,
      (if st.hasGas then [.entryGas t st.flows] else []) ++
      (match st.move with | some m => [.entryMove t m.1 m.2] | none => []) ++ [.entryFinish t])
  | none => (c, [.entryFinish t])

/-- Item 3 of a step entry: the gas request; the gas view waits for the next report (R10, R14). -/
def taskEntryGas (t : Tube) (flows : PerLine (Option Nat)) (c : Ctx) : Ctx × List Task :=
  (c.put (c.s.setRun t { c.s.run.get t with gasView := false }), [.gasRequest t flows])

/-- Item 4 of a step entry: the move request; the boat view becomes not met (R10, R14). -/
def taskEntryMove (t : Tube) (target speed : Nat) (c : Ctx) : Ctx × List Task :=
  (c.put (c.s.setRun t { c.s.run.get t with boatView := false }), [.moveRequest t target speed])

/-- Items 5 to 7 of a step entry; the fault actions of the entry are taken after them (R10, R12). -/
def taskEntryFinish (t : Tube) (c : Ctx) : Ctx × List Task :=
  let r := { c.s.run.get t with timer := 0, timeoutRaised := false }
  let c := c.put ((c.s.setRun t r).setThermal t (c.s.thermal.get t).zeroCounter)
  let c := match c.s.currentStep t, r.recipe with
    | some st, some slot =>
      c.notice (.stepEntered t (slot.val + 1) r.list r.step st.endCond st.duration c.s.stamp)
    | _, _ => c
  (c.setBusy t false, [.evaluate t, .release t])

/-- Take the fault actions that waited for a run controller (log entry 10). -/
def taskRelease (t : Tube) (c : Ctx) : Ctx × List Task :=
  if c.busy.get t then (c, [])
  else
    match c.deferred.find? fun d => d.1 = t with
    | some d => ({ c with deferred := c.deferred.erase d }, [.action t d.2.1 d.2.2, .release t])
    | none => (c, [])

/-! ### The start and the end of a run (R6, R9, R17, R18) -/

/-- The ramp parameters of idle behaviour and of the start of a run (R6, R9). -/
def TubeConfig.idleParams (cfg : TubeConfig) : RampParams :=
  { rate := cfg.idleRate, band := 0, holdback := 0, lockstep := true }

/-- RUN is taken: the run record, the recipe's in-use count, the pointer, an IDLE inhibit (R2 to R4, R9). -/
def State.startRun (s : State) (t : Tube) (slot : Fin 16) : State :=
  let cfg := s.tubeConfig t
  let s := s.setStore (s.store.borrow slot)
  let s := s.setRun t { s.run.get t with
    recipe := some slot, list := .main, holdHost := false, holdFault := false, mask := 0, params := cfg.idleParams }
  let s := (s.handOver t).setBank t cfg.defaultBank
  let s := if (s.thermal.get t).inhibit = .idle then s.clearInhibit t else s
  s.setRun t { s.run.get t with startStamp := s.stamp }

/-- The run a tube holds ends with a result: RUN_ENDED, the in-use count, the recipe reference and the hold reasons
(R17, R18). -/
def Ctx.closeRun (c : Ctx) (t : Tube) (result : RunResult) : Ctx :=
  let r := c.s.run.get t
  match r.recipe with
  | some slot =>
    let c := c.notice (.runEnded t (slot.val + 1) result r.list r.step r.startStamp c.s.stamp)
    let s := c.s.setStore (c.s.store.release slot)
    c.put (s.setRun t { s.run.get t with recipe := none, holdHost := false, holdFault := false })
  | none => c

/-- The end of a run that takes the tube to IDLE (R17, R23). -/
def taskEndRun (t : Tube) (result : RunResult) (cause : Cause) (c : Ctx) : Ctx × List Task :=
  ((c.closeRun t result).changeState t .idle cause, [.idle t])

/-- Idle behaviour (R6). -/
def taskIdle (t : Tube) (c : Ctx) : Ctx × List Task :=
  let cfg := c.s.tubeConfig t
  let s := (c.s.setRun t { c.s.run.get t with mask := 0, params := cfg.idleParams }).handOver t
  let s := if cfg.idleTemp = 0 then s.setInhibit t .idle else s.retarget t (List.replicate cfg.activeZones cfg.idleTemp)
  (c.put s, [.gasRequest t { n2 := some cfg.idleN2, o2 := some 0, h2 := some 0, aux := some 0 }])

/-! ### Holding, abort, safe (R20, R23, R25, R27) -/

/-- Entry into HOLDING (R20). -/
def taskEnterHolding (t : Tube) (cause : Cause) (c : Ctx) : Ctx × List Task :=
  (c.changeState t .holding cause, [.boatHold t true])

/-- HOLDING is left for RUNNING (R20, R21). -/
def taskLeaveHolding (t : Tube) (c : Ctx) : Ctx × List Task :=
  ((c.put (c.s.setRun t { c.s.run.get t with holdHost := false, holdFault := false })).changeState t .running .resume,
    [.boatHold t false, .evaluate t])

/-- An abort: withdraw, stop, then the tail or the end of the run (R23). The reports of the neighbours meanwhile bring no
evaluation (log entry 37). -/
def taskAbort (t : Tube) (cause : Cause) (c : Ctx) : Ctx × List Task :=
  (c.setBusy t true, [.withdraw t, .boatStop t, .abortFinish t cause])

/-- The end of an abort: the tail is entered, or the run ends ABORTED (R23). -/
def taskAbortFinish (t : Tube) (cause : Cause) (c : Ctx) : Ctx × List Task :=
  let c := c.put (c.s.setRun t { c.s.run.get t with mask := 0, holdHost := false, holdFault := false })
  match c.s.recipeOf t with
  | some rc =>
    if rc.tail = [] then (c.setBusy t false, [.endRun t .aborted cause, .release t])
    else (c.changeState t .aborting cause, [.enter t .tail 1])
  | none => (c.setBusy t false, [.release t])

/-- Entry into SAFE (R25). The reports of the neighbours meanwhile bring no evaluation (log entry 37), and the boat block
receives its stop before the new atmosphere state SAFE_FLOW (log entry 38). -/
def taskEnterSafe (t : Tube) (cause : Cause) (c : Ctx) : Ctx × List Task :=
  let s := c.s.setRun t { c.s.run.get t with mask := 0, holdHost := false, holdFault := false }
  ((c.put (s.stopRamps t)).setBusy t true, [.safeFlow t, .boatStop t, .safeFinish t cause])

/-- The end of an entry into SAFE: a run in progress ends STOPPED_SAFE, then the state changes (R25). -/
def taskSafeFinish (t : Tube) (cause : Cause) (c : Ctx) : Ctx × List Task :=
  (((c.closeRun t .stoppedSafe).changeState t .safe cause).setBusy t false, [.release t])

/-- A fault action, taken by the tube's state at the moment it arrives (R27, log entry 24). -/
def taskAction (t : Tube) (a : Applied) (k : FaultKind) (c : Ctx) : Ctx × List Task :=
  let r := c.s.run.get t
  match a, r.state with
  | .hold, .running => (c.put (c.s.setRun t { r with holdFault := true }), [.enterHolding t (.fault k)])
  | .hold, .holding => (c.put (c.s.setRun t { r with holdFault := true }), [])
  | .abort, .running | .abort, .holding | .escalated, .running | .escalated, .holding => (c, [.abort t (.fault k)])
  | .abort, .aborting | .escalated, .aborting => (c, [.enterSafe t (.fault k)])
  | .safe, .running | .safe, .holding | .safe, .aborting | .safe, .idle => (c, [.enterSafe t (.fault k)])
  | _, _ => (c, [])

/-! ### Commission (R5, R175) -/

/-- One fitted tube is brought into service (R5, R175). Its active zones are judged from zone 1 upward, each zone's
detections acting before the next zone is judged: the model's choice, as R48 names no order (log entry 35). -/
def taskCommissionTube (t : Tube) (c : Ctx) : Ctx × List Task :=
  let cfg := c.s.tubeConfig t
  let s := (c.s.seed t).setBank t cfg.defaultBank
  ((c.put s).changeState t .idle .commission,
    [.idle t] ++ (activeZones cfg.activeZones).map fun z => .judgeSamples t z)

end Sys2Proof.Machine
end

