-- ==== Sys2Proof/Machine/Thermal.lean ====
section
/-! DEFINITION. The thermal blocks (chapter 3): sample arrivals and their conditions, the ramp generator, holdback,
PI control, the thermal tick. -/

namespace Sys2Proof.Machine

/-! ### Samples (R48 to R51) -/

/-- A reading as it is written: a temperature above 14 000 is written as 14 000 (R48). -/
def readingSample : Reading → Sample
  | .isOpen => .isOpen
  | .temp v => .temp (satAt 14000 v)

/-- Write a sample into a zone record (R48). -/
def ZoneRec.writeSample (z : ZoneRec) (tc : Thermocouple) (v : Sample) : ZoneRec :=
  match tc with
  | .profile => { z with profile := v }
  | .spike => { z with spike := v }

/-- Write a sample for an active zone; an open profile sample also sets the zone's demand to 0 (R48, R49, R63). -/
def State.writeSample (s : State) (t : Tube) (z : Zone) (tc : Thermocouple) (v : Sample) : State :=
  let s := s.setThermal t ((s.thermal.get t).setZone z (((s.thermal.get t).zones.get z).writeSample tc v))
  if tc = .profile ∧ v = .isOpen then s.publishDemand t z 0 else s

/-- The measured value and the limit of an OVERTEMP report (R50). -/
def overtempReport (z : ZoneRec) (c : TubeConfig) : Option Nat × Option Nat :=
  if z.profile.above c.maxTemp then
    (match z.profile with | .temp v => some v | _ => none, some c.maxTemp)
  else
    (match z.spike with | .temp v => some v | _ => none, some c.elementLimit)

/-- A detection of the thermal block in a zone. -/
def zoneDetection (t : Tube) (z : Zone) (k : FaultKind) (measured limit : Option Nat) : Task :=
  .detect { tube := t, kind := k, place := some z.number, measured := measured, limit := limit, listStep := none }

/-- Judge the three sample conditions of a zone and report their onsets (R48 to R51). Onsets of one arrival are reported
in the order TC_OPEN, OVERTEMP, TC_DISAGREE: the model's choice (log entry 45). -/
def taskJudgeSamples (t : Tube) (z : Zone) (c : Ctx) : Ctx × List Task :=
  let cfg := c.s.tubeConfig t
  let th := c.s.thermal.get t
  let old := th.zones.get z
  let new := { old with
    tcOpen := old.tcOpenHolds, overtemp := old.overtempHolds cfg, disagree := old.disagreeHolds cfg }
  (c.put (c.s.setThermal t (th.setZone z new)),
    (if new.tcOpen && !old.tcOpen then [zoneDetection t z .tcOpen none none] else []) ++
    (if new.overtemp && !old.overtemp then
      [zoneDetection t z .overtemp (overtempReport new cfg).1 (overtempReport new cfg).2] else []) ++
    (if new.disagree && !old.disagree then
      [zoneDetection t z .tcDisagree new.disagreement (some cfg.disagreeLimit)] else []))

/-! ### The ramp generator (R53, R57, R58) and holdback (R59) -/

/-- One advance of a ramp at rate `r` (R53). -/
def ZoneRec.advance (z : ZoneRec) (r : Nat) : ZoneRec :=
  let a := z.remainder + 100 * r
  if dist z.target z.setpoint ≤ a / 60 then
    { z with setpoint := z.target, complete := true, remainder := 0 }
  else
    { z with
      setpoint := if z.setpoint < z.target then z.setpoint + a / 60 else z.setpoint - a / 60
      remainder := a % 60 }

/-- Whether a zone's ramp advances at this tick: with lockstep on, every incomplete ramp of the tube must be eligible
(R57, R58). -/
def ThermalRec.advances (r : ThermalRec) (n : Nat) (starved : Zone → Bool) (z : Zone) : Bool :=
  !(r.zones.get z).complete &&
    (if r.params.lockstep then
      (activeZones n).all fun y => (r.zones.get y).complete || r.eligible (r.zones.get y) (starved y)
    else r.eligible (r.zones.get z) (starved z))

/-- Steps 2 and 3 of the thermal tick up to the report of RAMP_STALLED: the advance of the ramps and the count of held
ticks (R53, R57 to R59). -/
def ThermalRec.advanceRamps (r : ThermalRec) (n : Nat) (starved : Zone → Bool) : ThermalRec :=
  let held := (activeZones n).any fun z => !(r.zones.get z).complete && !r.advances n starved z
  let moved := r.mapActive n fun z zr => if r.advances n starved z then zr.advance r.params.rate else zr
  let counted := { moved with counter := if r.moves && held then satAt 65535 (r.counter + 1) else r.counter }
  { counted with stalled := r.stalled && counted.stallHolds }

/-! ### PI control (R61 to R63) -/

/-- The error, limited to −10 000 to +10 000 (item 1 of R61). -/
def piError (sp pv : Nat) : Int := max (-10000) (min 10000 ((sp : Int) - (pv : Int)))

/-- The unclamped output u (items 2 to 4 of R61). -/
def piOutput (k : Tuning) (e : Int) (integral : Nat) : Int :=
  Int.tdiv ((k.kp : Int) * e) 100 + Int.tdiv ((integral : Int) + (k.ki : Int) * e) 1000

/-- The demand (item 5 of R61). -/
def piDemand (k : Tuning) (e : Int) (integral : Nat) : Nat :=
  (max 0 (min (k.lmax : Int) (piOutput k e integral))).toNat

/-- The integral after the output is computed (R62). -/
def piIntegral (k : Tuning) (e : Int) (integral : Nat) : Nat :=
  let u := piOutput k e integral
  if ((k.lmax : Int) < u ∧ 0 < e) ∨ (u < 0 ∧ e < 0) then integral
  else (max 0 (min ((k.lmax : Int) * 1000) ((integral : Int) + (k.ki : Int) * e))).toNat

/-- Step 4 of the thermal tick for one zone: the demand and the integral, or a demand of 0 while R63 excepts the
zone. -/
def State.controlZone (s : State) (t : Tube) (z : Zone) : State :=
  let th := s.thermal.get t
  let zr := th.zones.get z
  match zr.profile with
  | .temp pv =>
    if th.inhibit = .clear then
      let k := s.tuning t z
      let e := piError zr.sp pv
      let s := s.setThermal t (th.setZone z { zr with integral := piIntegral k e zr.integral })
      s.publishDemand t z (piDemand k e zr.integral)
    else s.publishDemand t z 0
  | _ => s.publishDemand t z 0

/-! ### The thermal tick (R60) -/

/-- Step 5 of the thermal tick for one zone: DEVIATION and the report of its onset (R64). -/
def deviationReport (t : Tube) (cfg : TubeConfig) (th : ThermalRec) (z : Zone) : List Task :=
  let zr := th.zones.get z
  if zr.deviationHolds th.runState cfg && !zr.deviation then
    [zoneDetection t z .deviation (zr.strayed th.runState) (some cfg.deviationBand)]
  else []

/-- The thermal tick (R60). The block's own work is done first, the verdict of step 6 included, with the ramp parameters
and the ramps that the tick found (R55); its reports follow in the order of the steps, and the report of the temperature
view comes last (log entry 16). Several zones that begin to deviate at one tick report in the order of the zones, the
model's choice, as R64 names none (log entry 41). -/
def thermalTickStart (t : Tube) (c : Ctx) : Ctx × List Task :=
  let cfg := c.s.tubeConfig t
  let th := c.s.thermal.get t
  if th.runState = .offline then (c, [])
  else
    let zones := activeZones cfg.activeZones
    let starved := fun z => (c.s.alloc.zone t z).starved
    let s := c.s.setThermal t (th.advanceRamps cfg.activeZones starved)
    let s := zones.foldl (fun s z => s.controlZone t z) s
    let th := s.thermal.get t
    let reports := zones.flatMap (deviationReport t cfg th)
    let s := s.setThermal t
      (th.mapActive cfg.activeZones fun _ zr => { zr with deviation := zr.deviationHolds th.runState cfg })
    (c.put s, [.rampStalled t] ++ reports ++ [.tempReport t (th.settled cfg.activeZones)])

/-- The onset of RAMP_STALLED at a tick and its report (R59). -/
def taskRampStalled (t : Tube) (c : Ctx) : Ctx × List Task :=
  let th := c.s.thermal.get t
  if th.runState ≠ .offline ∧ th.stallHolds ∧ th.stalled = false then
    (c.put (c.s.setThermal t { th with stalled := true }),
      [.detect { tube := t, kind := .rampStalled, place := none, measured := some th.counter,
                 limit := some th.params.holdback, listStep := none }])
  else (c, [])

/-- The report of the temperature view (item 6 of R60); a change of the view brings an evaluation (R14, R15). A step with
targets or a band that a detection of the same tick has entered keeps its view not met until the next tick (R14, R55). -/
def taskTempReport (t : Tube) (met : Bool) (c : Ctx) : Ctx × List Task :=
  let r := c.s.run.get t
  if c.rampSet.get t then (c, [])
  else (c.put (c.s.setRun t { r with tempView := met }), if met = r.tempView then [] else [.evaluate t])

end Sys2Proof.Machine
end

