-- ==== Sys2Proof/Machine/Cascade.lean ====
section
/-! DEFINITION. One event: the messages between blocks are taken depth first until none is left (log entry 4). -/

namespace Sys2Proof.Machine

/-- What the block that a message reaches does with it. -/
def handle : Task → Ctx → Ctx × List Task
  | .evaluate t => taskEvaluate t
  | .stepEnd t => taskStepEnd t
  | .enter t l i => taskEnter t l i
  | .entryGas t f => taskEntryGas t f
  | .entryMove t x v => taskEntryMove t x v
  | .entryFinish t => taskEntryFinish t
  | .release t => taskRelease t
  | .endRun t r k => taskEndRun t r k
  | .idle t => taskIdle t
  | .enterHolding t k => taskEnterHolding t k
  | .leaveHolding t => taskLeaveHolding t
  | .abort t k => taskAbort t k
  | .abortFinish t k => taskAbortFinish t k
  | .enterSafe t k => taskEnterSafe t k
  | .safeFinish t k => taskSafeFinish t k
  | .action t a k => taskAction t a k
  | .stepElapsed t => taskStepElapsed t
  | .stepTimeout t => taskStepTimeout t
  | .detect d => taskDetect d
  | .bankDetect l => taskBankDetect l
  | .shedDetect m l => taskShedDetect m l
  | .shedActed t a l rs q p => taskShedActed t a l rs q p
  | .judgeSamples t z => taskJudgeSamples t z
  | .rampStalled t => taskRampStalled t
  | .tempReport t v => taskTempReport t v
  | .powerStarved t z => taskPowerStarved t z
  | .headerWait t => taskHeaderWait t
  | .flowDeviation t l => taskFlowDeviation t l
  | .examine => taskExamine
  | .gasRequest t f => taskGasRequest t f
  | .recompute t w => taskRecompute t w
  | .withdraw t => taskWithdraw t
  | .safeFlow t => taskSafeFlow t
  | .atmReport t => taskAtmReport t
  | .atmTick t => taskAtmTick t
  | .purgeComplete t => taskPurgeComplete t
  | .purgeIncomplete t => taskPurgeIncomplete t
  | .ignitionTest t => taskIgnitionTest t
  | .ignitionFailed t => taskIgnitionFailed t
  | .postFlowEnd t => taskPostFlowEnd t
  | .moveRequest t x v => taskMoveRequest t x v
  | .moveStart t => taskMoveStart t
  | .boatStop t => taskBoatStop t
  | .boatHold t on => taskBoatHold t on
  | .boatRelease t => taskBoatRelease t
  | .boatReport t => taskBoatReport t
  | .settleTimeout t => taskSettleTimeout t
  | .shutterTimeout t => taskShutterTimeout t
  | .commissionTube t => taskCommissionTube t

/-- Take the messages depth first, at most `n` of them. -/
def runTasks : Nat → List Task → Ctx → Ctx
  | _, [], c => c
  | 0, _ :: _, c => c
  | n + 1, k :: ks, c => runTasks n ((handle k c).2 ++ ks) (handle k c).1

/-- One event of the plant: what it does first, then every message that follows from it. -/
def State.event (s : State) (first : Ctx → Ctx × List Task) : State :=
  (runTasks Config.cascadeBound (first (Ctx.start s false)).2 (first (Ctx.start s false)).1).s

/-- One event of the plant that begins with messages alone. -/
def State.eventOf (s : State) (tasks : List Task) : State := s.event fun c => (c, tasks)

end Sys2Proof.Machine
end

