-- ==== Sys2Proof/Machine/Operands.lean ====
section
/-! DEFINITION. The bytes of the host line (R156, R158, R166 to R171): encoding of values, codes, the layouts of
requests, notices, refusals and records, the check byte. Where R166 leaves a layout open the choice is in log
entries 7 and 8. -/

namespace Sys2Proof.Machine

/-! ### Values (R166) -/

/-- A number of one byte. -/
def u8 (n : Nat) : List Byte := [BitVec.ofNat 8 n]

/-- A number of two bytes, most significant first. -/
def u16 (n : Nat) : List Byte := [BitVec.ofNat 8 (n / 256), BitVec.ofNat 8 n]

/-- A number of four bytes, most significant first. -/
def u32 (n : Nat) : List Byte := u16 (n / 65536) ++ u16 n

/-- A yes/no value: 1 for the first-named. -/
def flag (b : Bool) : List Byte := [if b then 1 else 0]

/-- A two-byte value that may be absent and may be 0: a presence byte, then the value. -/
def optional16 : Option Nat → List Byte
  | some v => flag true ++ u16 v
  | none => flag false

/-- A list: its count, then its items. -/
def counted {α : Type} (items : List α) (f : α → List Byte) : List Byte := u8 items.length ++ items.flatMap f

/-- A temperature sample. -/
def sampleBytes : Sample → List Byte
  | .temp t => u16 t
  | .isOpen => u16 0xFFFF
  | .absent => u16 0xFFFE

/-- The four flows of a set. -/
def flowBytes (f : Flows) : List Byte := u16 f.n2 ++ u16 f.o2 ++ u16 f.h2 ++ u16 f.aux

/-- The bytes of a two-byte payload number. -/
def halfBytes (h : Half) : List Byte := [h.extractLsb' 8 8, h.extractLsb' 0 8]

/-- The bytes of a four-byte payload number. -/
def quadBytes (q : Quad) : List Byte := halfBytes (q.extractLsb' 16 16) ++ halfBytes (q.extractLsb' 0 16)

/-! ### Enumerations (R167) -/

/-- Run state codes. -/
def RunState.code : RunState → Nat
  | .offline => 0
  | .idle => 1
  | .running => 2
  | .holding => 3
  | .aborting => 4
  | .safe => 5

/-- End condition codes. -/
def EndCond.code : EndCond → Nat
  | .time => 0
  | .temp => 1
  | .boat => 2
  | .gas => 3
  | .all => 4

/-- The end condition of a code. -/
def EndCond.ofCode : Nat → Option EndCond
  | 0 => some .time
  | 1 => some .temp
  | 2 => some .boat
  | 3 => some .gas
  | 4 => some .all
  | _ => none

/-- List codes. -/
def ListSel.code : ListSel → Nat
  | .main => 0
  | .tail => 1

/-- The list of a code. -/
def ListSel.ofCode : Nat → Option ListSel
  | 0 => some .main
  | 1 => some .tail
  | _ => none

/-- Policy action codes, 1 to 4. -/
def PolicyAction.code : PolicyAction → Nat
  | .advisory => 1
  | .hold => 2
  | .abort => 3
  | .safe => 4

/-- The policy action of a code. -/
def PolicyAction.ofCode : Nat → Option PolicyAction
  | 1 => some .advisory
  | 2 => some .hold
  | 3 => some .abort
  | 4 => some .safe
  | _ => none

/-- Cause codes. -/
def Cause.code : Cause → Nat
  | .commission => 0
  | .run => 1
  | .hold => 2
  | .resume => 3
  | .abort => 4
  | .safeStop => 5
  | .recover => 6
  | .fault _ => 7
  | .listEnd => 8

/-- The fault kind a cause carries, as its byte (log entry 8). -/
def Cause.kindCode : Cause → Nat
  | .fault k => k.code
  | _ => 0

/-- Run result codes. -/
def RunResult.code : RunResult → Nat
  | .completed => 0
  | .aborted => 1
  | .stoppedSafe => 2

/-- Atmosphere class codes. -/
def AtmClass.code : AtmClass → Nat
  | .inert => 0
  | .oxidizing => 1
  | .doping => 2
  | .steam => 3

/-- Atmosphere state codes. -/
def AtmState.code : AtmState → Nat
  | .stable => 0
  | .waitHeader => 1
  | .purge => 2
  | .preflow => 3
  | .ignite => 4
  | .lit => 5
  | .extinguish => 6
  | .safeFlow => 7

/-- Awaited phase codes; none is 0xFF. -/
def phaseCode : Option Phase → Nat
  | some p => p.state.code
  | none => 0xFF

/-- Boat state codes. -/
def BoatState.code : BoatState → Nat
  | .ready => 0
  | .waitCond => 1
  | .shutterOpening => 2
  | .travel => 3
  | .settle => 4
  | .shutterClosing => 5
  | .paused => 6
  | .stalled => 7

/-- Shutter state codes. -/
def ShutterState.code : ShutterState → Nat
  | .closed => 0
  | .opening => 1
  | .opened => 2
  | .closing => 3

/-- Heater inhibit codes. -/
def Inhibit.code : Inhibit → Nat
  | .clear => 0
  | .idle => 1
  | .fault => 2

/-- Tube record state codes. -/
def TubeStatus.code : TubeStatus → Nat
  | .unconfigured => 0
  | .fitted => 1
  | .notFitted => 2

/-- Loader direction codes. -/
def Direction.code : Direction → Nat
  | .inward => 0
  | .outward => 1

/-- A power class as its number. -/
def PowerClass.number : PowerClass → Nat
  | .soak => 3
  | .ramp => 2
  | .other => 1

/-- The next expected position of a load: COMPLETE is list 0xFF and index 0. -/
def positionBytes : Position → List Byte
  | .step l i => u8 l.code ++ u8 i
  | .complete => u8 0xFF ++ u8 0

/-- A fault kind as its byte, 0 where empty. -/
def kindByte : Option FaultKind → List Byte
  | some k => u8 k.code
  | none => u8 0

/-! ### Refusals (R168) -/

/-- The refusal reasons. -/
inductive Reason where
  | badKind | badLength | badField | wrongState | range | mismatch | noSuchRecipe | faultPending | conditionPresent
  | loadOpen | occupied | storeFull | badSequence | incomplete | inUse | fixedKind | locked | noBudget
deriving DecidableEq, Repr

/-- Reason codes. -/
def Reason.code : Reason → Nat
  | .badKind => 0x01
  | .badLength => 0x02
  | .badField => 0x03
  | .wrongState => 0x04
  | .range => 0x05
  | .mismatch => 0x06
  | .noSuchRecipe => 0x07
  | .faultPending => 0x08
  | .conditionPresent => 0x09
  | .loadOpen => 0x0A
  | .occupied => 0x0B
  | .storeFull => 0x0C
  | .badSequence => 0x0D
  | .incomplete => 0x0E
  | .inUse => 0x0F
  | .fixedKind => 0x10
  | .locked => 0x11
  | .noBudget => 0x12

/-- What an owner answers to a request: OK with the payloads of its frames, or REFUSE with the reason, the field index,
and for RANGE the list code and step index (R160, R168). -/
inductive Answer where
  | ok (payloads : List (List Byte))
  | refuse (reason : Reason) (field : Nat) (place : Nat × Nat)
deriving DecidableEq, Repr

/-- An OK of one frame. -/
def Answer.one (payload : List Byte) : Answer := .ok [payload]

/-- A refusal that concerns a field, or field 0. -/
def Answer.no (reason : Reason) (field : Nat) : Answer := .refuse reason field (0, 0)

/-- The payload of a REFUSE. -/
def refusePayload (kind : Byte) (reason : Reason) (field : Nat) (place : Nat × Nat) : List Byte :=
  [kind] ++ u8 reason.code ++ u8 field ++ (if reason = .range then u8 place.1 ++ u8 place.2 else [])

/-- The reply to a request of the kind and tag given (R160, R168). -/
def Answer.reply (a : Answer) (kind tag : Byte) : Reply :=
  match a with
  | .ok ps => { fromRequest := true, kind := kind + 0x80, tag := tag, payloads := ps, restarts := false }
  | .refuse r f p =>
    { fromRequest := true, kind := 0xFE, tag := tag, payloads := [refusePayload kind r f p], restarts := false }

/-- A REJECT, reason CHECK (R158, R168). -/
def rejectReply (kind tag : Byte) : Reply :=
  { fromRequest := false, kind := 0xFC, tag := tag, payloads := [[0x01, kind]], restarts := false }

/-- A BUSY (R159, R168). -/
def busyReply (kind tag : Byte) : Reply :=
  { fromRequest := false, kind := 0xFD, tag := tag, payloads := [[kind]], restarts := false }

/-! ### The check byte and the frame (R156, R158) -/

/-- One bit of the CRC. -/
def crcBit (c : Byte) : Byte := if c.msb then (c <<< 1) ^^^ 0x07 else c <<< 1

/-- One byte of the CRC, most significant bit first. -/
def crcByte (c b : Byte) : Byte := crcBit (crcBit (crcBit (crcBit (crcBit (crcBit (crcBit (crcBit (c ^^^ b))))))))

/-- The CRC-8 of a sequence of bytes (R158). -/
def crc8 (bytes : List Byte) : Byte := bytes.foldl crcByte 0

/-- The bytes of a frame on the line (R156). -/
def frameBytes (kind tag : Byte) (payload : List Byte) : List Byte :=
  let body := u8 (payload.length + 2) ++ [kind, tag] ++ payload
  [0xC3] ++ body ++ [crc8 body]

/-! ### The step record (R169) -/

/-- The value of a field in the presence word, where it is present. -/
def present {α : Type} (o : Option α) (v : Nat) : Nat := if o.isSome then v else 0

/-- The presence word of a step record. -/
def stepWord (s : RawStep) : Nat :=
  present s.endCond 1 + present s.duration 2 + present s.targets 4 + present s.rate 8 + present s.band 16 +
    present s.holdback 32 + present s.lockstep 64 + present s.n2 128 + present s.o2 256 + present s.h2 512 +
    present s.aux 1024 + present s.move 2048 + present s.bank 4096 + present s.mask 8192

/-- The bytes of a field that may be absent. -/
def ifPresent {α : Type} (o : Option α) (f : α → List Byte) : List Byte :=
  match o with
  | some v => f v
  | none => []

/-- The bytes of a step record. -/
def stepBytes (s : RawStep) : List Byte :=
  u16 (stepWord s) ++ ifPresent s.endCond (fun b => [b]) ++ ifPresent s.duration halfBytes ++
    ifPresent s.targets (fun l => counted l halfBytes) ++ ifPresent s.rate (fun b => [b]) ++
    ifPresent s.band halfBytes ++ ifPresent s.holdback halfBytes ++ ifPresent s.lockstep (fun b => [b]) ++
    ifPresent s.n2 halfBytes ++ ifPresent s.o2 halfBytes ++ ifPresent s.h2 halfBytes ++ ifPresent s.aux halfBytes ++
    ifPresent s.move (fun m => halfBytes m.1 ++ halfBytes m.2) ++ ifPresent s.bank (fun b => [b]) ++
    ifPresent s.mask (fun b => [b])

/-- A stored step as it was received (R38, R169). -/
def Step.raw (s : Step) : RawStep :=
  { endCond := some (BitVec.ofNat 8 s.endCond.code), duration := some (BitVec.ofNat 16 s.duration),
    targets := s.targets.map fun l => l.map (BitVec.ofNat 16), rate := s.rate.map (BitVec.ofNat 8),
    band := s.band.map (BitVec.ofNat 16), holdback := s.holdback.map (BitVec.ofNat 16),
    lockstep := s.lockstep.map fun b => if b then 1 else 0,
    n2 := s.flows.n2.map (BitVec.ofNat 16), o2 := s.flows.o2.map (BitVec.ofNat 16),
    h2 := s.flows.h2.map (BitVec.ofNat 16), aux := s.flows.aux.map (BitVec.ofNat 16),
    move := s.move.map fun m => (BitVec.ofNat 16 m.1, BitVec.ofNat 16 m.2),
    bank := s.bank.map fun b => BitVec.ofNat 8 b.val, mask := s.mask.map (BitVec.ofNat 8) }

/-! ### Reading a payload (R166) -/

/-- Read one byte. -/
def byte? : List Byte → Option (Byte × List Byte)
  | b :: r => some (b, r)
  | [] => none

/-- Read a two-byte number. -/
def half? : List Byte → Option (Half × List Byte)
  | a :: b :: r => some (a ++ b, r)
  | _ => none

/-- Read a four-byte number. -/
def quad? (p : List Byte) : Option (Quad × List Byte) := do
  let (a, p) ← half? p
  let (b, p) ← half? p
  some (a ++ b, p)

/-- Read `n` items. -/
def items? {α : Type} (f : List Byte → Option (α × List Byte)) : Nat → List Byte → Option (List α × List Byte)
  | 0, p => some ([], p)
  | n + 1, p => do
    let (x, p) ← f p
    let (xs, p) ← items? f n p
    some (x :: xs, p)

/-- Read a list: its count, then its items. -/
def list? {α : Type} (f : List Byte → Option (α × List Byte)) (p : List Byte) : Option (List α × List Byte) := do
  let (n, p) ← byte? p
  items? f n.toNat p

/-- Read a pair of two-byte numbers. -/
def pair? (p : List Byte) : Option ((Half × Half) × List Byte) := do
  let (a, p) ← half? p
  let (b, p) ← half? p
  some ((a, b), p)

/-- Read a field if its bit of the presence word is set. -/
def fieldIf {α : Type} (w bit : Nat) (f : List Byte → Option (α × List Byte)) (p : List Byte) :
    Option (Option α × List Byte) :=
  if w.testBit bit then (f p).map fun r => (some r.1, r.2) else some (none, p)

/-- Read a step record; a presence word of 16 384 or more does not decode (R169). -/
def rawStep? (p : List Byte) : Option (RawStep × List Byte) := do
  let (h, p) ← half? p
  let w := h.toNat
  if 16384 ≤ w then none
  let (endCond, p) ← fieldIf w 0 byte? p
  let (duration, p) ← fieldIf w 1 half? p
  let (targets, p) ← fieldIf w 2 (list? half?) p
  let (rate, p) ← fieldIf w 3 byte? p
  let (band, p) ← fieldIf w 4 half? p
  let (holdback, p) ← fieldIf w 5 half? p
  let (lockstep, p) ← fieldIf w 6 byte? p
  let (n2, p) ← fieldIf w 7 half? p
  let (o2, p) ← fieldIf w 8 half? p
  let (h2, p) ← fieldIf w 9 half? p
  let (aux, p) ← fieldIf w 10 half? p
  let (move, p) ← fieldIf w 11 pair? p
  let (bank, p) ← fieldIf w 12 byte? p
  let (mask, p) ← fieldIf w 13 byte? p
  some ({ endCond, duration, targets, rate, band, holdback, lockstep, n2, o2, h2, aux, move, bank, mask }, p)

/-- Read a tuning entry (R67). -/
def tuning? (p : List Byte) : Option (TuningFields × List Byte) := do
  let (kp, p) ← half? p
  let (ki, p) ← half? p
  let (lmax, p) ← half? p
  some ({ kp, ki, lmax }, p)

/-- The bytes of a tuning entry. -/
def tuningBytes (e : TuningFields) : List Byte := halfBytes e.kp ++ halfBytes e.ki ++ halfBytes e.lmax

/-- Read fields 4 to 29 of CONFIGURE_TUBE (R173). -/
def tubeFields? (p : List Byte) : Option (TubeFields × List Byte) := do
  let (ratings, p) ← list? byte? p
  let (maxTemp, p) ← half? p
  let (elementLimit, p) ← half? p
  let (disagreeLimit, p) ← half? p
  let (deviationBand, p) ← half? p
  let (idleTemp, p) ← half? p
  let (idleRate, p) ← byte? p
  let (scaleN2, p) ← half? p
  let (scaleO2, p) ← half? p
  let (scaleH2, p) ← half? p
  let (scaleAux, p) ← half? p
  let (idleN2, p) ← half? p
  let (purgeN2, p) ← half? p
  let (safetyN2, p) ← half? p
  let (ratio, p) ← byte? p
  let (ignitionH2, p) ← half? p
  let (volume, p) ← half? p
  let (exchanges, p) ← byte? p
  let (preflowTime, p) ← byte? p
  let (ignitionTimeout, p) ← byte? p
  let (postFlowTime, p) ← byte? p
  let (travel, p) ← half? p
  let (boatN2Min, p) ← half? p
  let (stallLimit, p) ← half? p
  let (defaultBank, p) ← byte? p
  let (starveLimit, p) ← half? p
  some ({ ratings, maxTemp, elementLimit, disagreeLimit, deviationBand, idleTemp, idleRate, scaleN2, scaleO2,
          scaleH2, scaleAux, idleN2, purgeN2, safetyN2, ratio, ignitionH2, volume, exchanges, preflowTime,
          ignitionTimeout, postFlowTime, travel, boatN2Min, stallLimit, defaultBank, starveLimit }, p)

/-- The bytes of fields 4 to 29 of CONFIGURE_TUBE. -/
def tubeFieldsBytes (f : TubeFields) : List Byte :=
  counted f.ratings (fun b => [b]) ++ halfBytes f.maxTemp ++ halfBytes f.elementLimit ++ halfBytes f.disagreeLimit ++
    halfBytes f.deviationBand ++ halfBytes f.idleTemp ++ [f.idleRate] ++ halfBytes f.scaleN2 ++ halfBytes f.scaleO2 ++
    halfBytes f.scaleH2 ++ halfBytes f.scaleAux ++ halfBytes f.idleN2 ++ halfBytes f.purgeN2 ++
    halfBytes f.safetyN2 ++ [f.ratio] ++ halfBytes f.ignitionH2 ++ halfBytes f.volume ++ [f.exchanges] ++
    [f.preflowTime] ++ [f.ignitionTimeout] ++ [f.postFlowTime] ++ halfBytes f.travel ++ halfBytes f.boatN2Min ++
    halfBytes f.stallLimit ++ [f.defaultBank] ++ halfBytes f.starveLimit

/-! ### Requests (R160, R166, R167) -/

/-- The kind code of a request (R167). -/
def requestKind : Request → Byte
  | .identify => 0x01
  | .setNotices .. => 0x02
  | .configureTube .. => 0x10
  | .configureBank .. => 0x11
  | .commission => 0x12
  | .setClock _ => 0x13
  | .restart => 0x14
  | .run .. => 0x20
  | .hold _ => 0x21
  | .resume _ => 0x22
  | .skipStep _ => 0x23
  | .abort _ => 0x24
  | .safeStop _ => 0x25
  | .recover _ => 0x26
  | .queryTube _ => 0x27
  | .recipeOpen .. => 0x30
  | .recipeStep .. => 0x31
  | .recipeClose => 0x32
  | .recipeCancel => 0x33
  | .recipeDrop _ => 0x34
  | .recipeDropOwner _ => 0x35
  | .readRecipe .. => 0x36
  | .loadTuning .. => 0x40
  | .queryZones _ => 0x41
  | .setBudget _ => 0x42
  | .queryPower => 0x43
  | .queryGas => 0x48
  | .queryAtmosphere _ => 0x49
  | .setSpeedTable .. => 0x50
  | .boatJog .. => 0x51
  | .queryBoat _ => 0x52
  | .setFaultPolicy .. => 0x58
  | .clearFaults .. => 0x59
  | .readLog _ => 0x5A
  | .queryFaults _ => 0x5B

/-- The payload of a request (R166). -/
def requestPayload : Request → List Byte
  | .identify => []
  | .setNotices a b c d => [a, b, c, d]
  | .configureTube t f z fs => [t, f, z] ++ tubeFieldsBytes fs
  | .configureBank a b c d s w => [a, b, c, d] ++ halfBytes s ++ halfBytes w
  | .commission => []
  | .setClock o => quadBytes o
  | .restart => []
  | .run t s => [t, s]
  | .hold t => [t]
  | .resume t => [t]
  | .skipStep t => [t]
  | .abort t => [t]
  | .safeStop t => [t]
  | .recover t => [t]
  | .queryTube t => [t]
  | .recipeOpen s n o r z m k => [s] ++ counted n (fun b => [b]) ++ [o, r, z, m, k]
  | .recipeStep l i r => [l, i] ++ stepBytes r
  | .recipeClose => []
  | .recipeCancel => []
  | .recipeDrop s => [s]
  | .recipeDropOwner o => [o]
  | .readRecipe s l i => [s, l, i]
  | .loadTuning b e1 e2 e3 e4 e5 => [b] ++ tuningBytes e1 ++ tuningBytes e2 ++ tuningBytes e3 ++ tuningBytes e4 ++ tuningBytes e5
  | .queryZones t => [t]
  | .setBudget b => halfBytes b
  | .queryPower => []
  | .queryGas => []
  | .queryAtmosphere t => [t]
  | .setSpeedTable t es => [t] ++ counted es (fun e => halfBytes e.1 ++ halfBytes e.2)
  | .boatJog t x v => [t] ++ halfBytes x ++ halfBytes v
  | .queryBoat t => [t]
  | .setFaultPolicy k e l a => [k, e, l, a]
  | .clearFaults t ks => [t] ++ counted ks (fun b => [b])
  | .readLog q => quadBytes q
  | .queryFaults t => [t]

/-- What the decoding of a frame answers (R160, R166). -/
inductive Decoded where
  | badKind
  | badLength
  | request (r : Request)
deriving DecidableEq, Repr

/-- A payload of no field. -/
def noField (p : List Byte) (r : Request) : Decoded :=
  match p with
  | [] => .request r
  | _ => .badLength

/-- A payload of one byte. -/
def oneByte (p : List Byte) (f : Byte → Request) : Decoded :=
  match p with
  | [a] => .request (f a)
  | _ => .badLength

/-- A payload read by a parser that must leave no byte over. -/
def whole (r : Option (Request × List Byte)) : Decoded :=
  match r with
  | some (q, []) => .request q
  | _ => .badLength

/-- Read CONFIGURE_TUBE (R173). -/
def configureTube? (p : List Byte) : Option (Request × List Byte) := do
  let (t, p) ← byte? p
  let (f, p) ← byte? p
  let (z, p) ← byte? p
  let (fs, p) ← tubeFields? p
  some (.configureTube t f z fs, p)

/-- Read CONFIGURE_BANK (R174). -/
def configureBank? (p : List Byte) : Option (Request × List Byte) := do
  let (a, p) ← byte? p
  let (b, p) ← byte? p
  let (c, p) ← byte? p
  let (d, p) ← byte? p
  let (s, p) ← half? p
  let (w, p) ← half? p
  some (.configureBank a b c d s w, p)

/-- Read RECIPE_OPEN (R34). -/
def recipeOpen? (p : List Byte) : Option (Request × List Byte) := do
  let (s, p) ← byte? p
  let (n, p) ← list? byte? p
  let (o, p) ← byte? p
  let (r, p) ← byte? p
  let (z, p) ← byte? p
  let (m, p) ← byte? p
  let (k, p) ← byte? p
  some (.recipeOpen s n o r z m k, p)

/-- Read RECIPE_STEP (R36, R169). -/
def recipeStep? (p : List Byte) : Option (Request × List Byte) := do
  let (l, p) ← byte? p
  let (i, p) ← byte? p
  let (r, p) ← rawStep? p
  some (.recipeStep l i r, p)

/-- Read LOAD_TUNING (R67). -/
def loadTuning? (p : List Byte) : Option (Request × List Byte) := do
  let (b, p) ← byte? p
  let (e1, p) ← tuning? p
  let (e2, p) ← tuning? p
  let (e3, p) ← tuning? p
  let (e4, p) ← tuning? p
  let (e5, p) ← tuning? p
  some (.loadTuning b e1 e2 e3 e4 e5, p)

/-- Read SET_SPEED_TABLE; its count is a numbered field, so any count decodes (R129, R166). -/
def setSpeedTable? (p : List Byte) : Option (Request × List Byte) := do
  let (t, p) ← byte? p
  let (es, p) ← list? pair? p
  some (.setSpeedTable t es, p)

/-- Read BOAT_JOG (R136). -/
def boatJog? (p : List Byte) : Option (Request × List Byte) := do
  let (t, p) ← byte? p
  let (x, p) ← half? p
  let (v, p) ← half? p
  some (.boatJog t x v, p)

/-- Read CLEAR_FAULTS; a count above 19 does not decode (R145, R166). -/
def clearFaults? (p : List Byte) : Option (Request × List Byte) := do
  let (t, p) ← byte? p
  let (ks, p) ← list? byte? p
  if 19 < ks.length then none
  some (.clearFaults t ks, p)

/-- Decode the payload of a frame under the layout of its kind (R160, R166, R167). -/
def decodeRequest (kind : Byte) (p : List Byte) : Decoded :=
  match kind.toNat with
  | 0x01 => noField p .identify
  | 0x02 => match p with
    | [a, b, c, d] => .request (.setNotices a b c d)
    | _ => .badLength
  | 0x10 => whole (configureTube? p)
  | 0x11 => whole (configureBank? p)
  | 0x12 => noField p .commission
  | 0x13 => whole ((quad? p).map fun r => (.setClock r.1, r.2))
  | 0x14 => noField p .restart
  | 0x20 => match p with
    | [t, s] => .request (.run t s)
    | _ => .badLength
  | 0x21 => oneByte p .hold
  | 0x22 => oneByte p .resume
  | 0x23 => oneByte p .skipStep
  | 0x24 => oneByte p .abort
  | 0x25 => oneByte p .safeStop
  | 0x26 => oneByte p .recover
  | 0x27 => oneByte p .queryTube
  | 0x30 => whole (recipeOpen? p)
  | 0x31 => whole (recipeStep? p)
  | 0x32 => noField p .recipeClose
  | 0x33 => noField p .recipeCancel
  | 0x34 => oneByte p .recipeDrop
  | 0x35 => oneByte p .recipeDropOwner
  | 0x36 => match p with
    | [s, l, i] => .request (.readRecipe s l i)
    | _ => .badLength
  | 0x40 => whole (loadTuning? p)
  | 0x41 => oneByte p .queryZones
  | 0x42 => whole ((half? p).map fun r => (.setBudget r.1, r.2))
  | 0x43 => noField p .queryPower
  | 0x48 => noField p .queryGas
  | 0x49 => oneByte p .queryAtmosphere
  | 0x50 => whole (setSpeedTable? p)
  | 0x51 => whole (boatJog? p)
  | 0x52 => oneByte p .queryBoat
  | 0x58 => match p with
    | [k, e, l, a] => .request (.setFaultPolicy k e l a)
    | _ => .badLength
  | 0x59 => whole (clearFaults? p)
  | 0x5A => whole ((quad? p).map fun r => (.readLog r.1, r.2))
  | 0x5B => oneByte p .queryFaults
  | _ => .badKind

/-- The frame of a request (R156). -/
def requestFrame (r : Request) (tag : Byte) : Frame :=
  { kind := requestKind r, tag := tag, payload := requestPayload r }

/-- The tag and the request that a command of the host line carries; the commands of the plant carry none. -/
def instrRequest : Instr → Option (Byte × Request)
  | .rxByte .. => none
  | .rxFramingError => none
  | .silenceTimeout => none
  | .takeRequest => none
  | .transmitComplete => none
  | .identify tag => some (tag, .identify)
  | .setNotices tag stepEntered runEnded faultActed tubeState => some (tag, .setNotices stepEntered runEnded faultActed tubeState)
  | .configureTube tag tube fitted activeZones f => some (tag, .configureTube tube fitted activeZones f)
  | .configureBank tag n2 o2 h2 aux shedBudget waitTimeout => some (tag, .configureBank n2 o2 h2 aux shedBudget waitTimeout)
  | .commission tag => some (tag, .commission)
  | .setClock tag offset => some (tag, .setClock offset)
  | .restart tag => some (tag, .restart)
  | .run tag tube slot => some (tag, .run tube slot)
  | .hold tag tube => some (tag, .hold tube)
  | .resume tag tube => some (tag, .resume tube)
  | .skipStep tag tube => some (tag, .skipStep tube)
  | .abort tag tube => some (tag, .abort tube)
  | .safeStop tag tube => some (tag, .safeStop tube)
  | .recover tag tube => some (tag, .recover tube)
  | .queryTube tag tube => some (tag, .queryTube tube)
  | .recipeOpen tag slot name owner resident zoneCount mainCount tailCount => some (tag, .recipeOpen slot name owner resident zoneCount mainCount tailCount)
  | .recipeStep tag list index record => some (tag, .recipeStep list index record)
  | .recipeClose tag => some (tag, .recipeClose)
  | .recipeCancel tag => some (tag, .recipeCancel)
  | .recipeDrop tag slot => some (tag, .recipeDrop slot)
  | .recipeDropOwner tag owner => some (tag, .recipeDropOwner owner)
  | .readRecipe tag slot list index => some (tag, .readRecipe slot list index)
  | .loadTuning tag bank e1 e2 e3 e4 e5 => some (tag, .loadTuning bank e1 e2 e3 e4 e5)
  | .queryZones tag tube => some (tag, .queryZones tube)
  | .setBudget tag budget => some (tag, .setBudget budget)
  | .queryPower tag => some (tag, .queryPower)
  | .queryGas tag => some (tag, .queryGas)
  | .queryAtmosphere tag tube => some (tag, .queryAtmosphere tube)
  | .setSpeedTable tag tube entries => some (tag, .setSpeedTable tube entries)
  | .boatJog tag tube target speed => some (tag, .boatJog tube target speed)
  | .queryBoat tag tube => some (tag, .queryBoat tube)
  | .setFaultPolicy tag kind enable level action => some (tag, .setFaultPolicy kind enable level action)
  | .clearFaults tag tube kinds => some (tag, .clearFaults tube kinds)
  | .readLog tag start => some (tag, .readLog start)
  | .queryFaults tag tube => some (tag, .queryFaults tube)
  | .powerOn => none
  | .resetN => none
  | .resetRelease .. => none
  | .uptimeTick => none
  | .stepTimerTick .. => none
  | .stepTimeElapsed .. => none
  | .stepTimeout .. => none
  | .sampleArrival .. => none
  | .thermalTick .. => none
  | .rampStalled .. => none
  | .allocationPass => none
  | .powerStarved .. => none
  | .loadShedEdge .. => none
  | .flowReadback .. => none
  | .gasTick .. => none
  | .admitted => none
  | .headerWaitTimeout .. => none
  | .flowDeviation .. => none
  | .purgeComplete .. => none
  | .purgeIncomplete .. => none
  | .ignitionChange .. => none
  | .flameSenseRise .. => none
  | .flameSenseFall .. => none
  | .ignitionFailed .. => none
  | .postFlowEnd .. => none
  | .positionArrival .. => none
  | .motionTick .. => none
  | .moveStart .. => none
  | .openLimitEdge .. => none
  | .closedLimitEdge .. => none
  | .settleTimeout .. => none
  | .shutterTimeout .. => none
  | .bankLineEdge .. => none
  | .logSequenceWrap => none

/-! ### Notices, segments and the log record (R153, R167, R170, R171) -/

/-- The kind code of a notice (R167). -/
def Notice.kind : Notice → Byte
  | .stepEntered .. => 0xE0
  | .runEnded .. => 0xE1
  | .faultActed .. => 0xE2
  | .tubeState .. => 0xE3

/-- The items of a notice, in the order of its rule (R7, R12, R18, R153). -/
def Notice.items : Notice → List Byte
  | .stepEntered t slot l i e d p => u8 t.number ++ u8 slot ++ u8 l.code ++ u8 i ++ u8 e.code ++ u16 d ++ u32 p
  | .runEnded t slot r l i a p =>
    u8 t.number ++ u8 slot ++ u8 r.code ++ u8 l.code ++ u8 i ++ u32 a ++ u32 p
  | .faultActed t k v a rs q p =>
    u8 t.number ++ u8 k.code ++ u8 v ++ u8 a.rank ++ u8 rs.code ++ u32 q ++ u32 p
  | .tubeState t n o c p =>
    u8 t.number ++ u8 n.code ++ u8 o.code ++ u8 c.code ++ u8 c.kindCode ++ u32 p

/-- The payload of a notice, the LOST mark first (R167). -/
def QueuedNotice.payload (n : QueuedNotice) : List Byte := flag n.lost ++ n.notice.items

/-- The bytes that the transmitter sends (R156, R161, R170). -/
def Outgoing.wire : Outgoing → List Byte
  | .reply r => r.payloads.flatMap (frameBytes r.kind r.tag)
  | .notice n => frameBytes n.notice.kind 0 n.payload

/-- Cut a content into segments of at most 247 bytes, numbered from `k`, 0x80 added on the last (R170). -/
def segments (k : Nat) : Nat → List Byte → List (List Byte)
  | 0, _ => []
  | n + 1, content =>
    if content.length ≤ 247 then [u8 (k + 0x80) ++ content]
    else (u8 k ++ content.take 247) :: segments (k + 1) n (content.drop 247)

/-- The answer of a query whose reply carries segments (R170). -/
def Answer.segmented (content : List Byte) : Answer := .ok (segments 0 4 content)

/-- A two-valued item or 0, for the fixed form of the log record. -/
def or0 (o : Option Nat) : Nat := o.getD 0

/-- The 26 bytes of a fault log record (R171). -/
def LogRec.bytes (r : LogRec) : List Byte :=
  u32 r.seq ++ u32 r.stamp ++ u8 (or0 (r.tube.map Tube.number)) ++ u8 r.kind.code ++ u8 r.level ++ u8 r.action.rank ++
    u8 ((r.tubeState.map RunState.code).getD 0xFF) ++ u8 (r.mask.getD 0xFF) ++
    u8 (present r.listStep 1 + present r.place 2 + present r.measured 4 + present r.limit 8) ++
    u8 (or0 (r.listStep.map fun p => p.1.code)) ++ u8 (or0 (r.listStep.map fun p => p.2)) ++ u8 (or0 r.place) ++
    u32 (or0 r.measured) ++ u32 (or0 r.limit)

/-! ### Requests' numbers -/

/-- A yes/no byte, judged (R166). -/
def yesNo (b : Byte) : Option Bool :=
  match b.toNat with
  | 0 => some false
  | 1 => some true
  | _ => none

/-- The tube of a field, if it is 1 to 4. -/
def tubeField (b : Byte) : Option Tube := Tube.ofNumber b.toNat

/-- The slot of a field, if it is 1 to 16. -/
def slotField (b : Byte) : Option (Fin 16) :=
  if h : 1 ≤ b.toNat ∧ b.toNat ≤ 16 then some ⟨b.toNat - 1, by omega⟩ else none

/-- The tuning bank of a number, if it is 0 to 7. -/
def bankOf (n : Nat) : Option (Fin 8) := if h : n < 8 then some ⟨n, h⟩ else none

/-- Whether a number lies within a range. -/
def within (lo hi n : Nat) : Bool := lo ≤ n && n ≤ hi

/-- The first failing check of a list of field checks. -/
def firstFail (checks : List (Nat × Bool)) : Option Nat := (checks.find? fun c => !c.2).map fun c => c.1

end Sys2Proof.Machine
end

