-- ==== Sys2Proof/Machine/Configure.lean ====
section
/-! DEFINITION. Configuration and start-up (chapter 11): CONFIGURE_TUBE, CONFIGURE_BANK, COMMISSION, SET_CLOCK,
RESTART. -/

namespace Sys2Proof.Machine

/-- The checks of fields 3 to 29 of CONFIGURE_TUBE, in order (R173). -/
def tubeChecks (zones : Byte) (f : TubeFields) : List (Nat × Bool) :=
  let n2 := f.scaleN2.toNat
  [(3, within 3 5 zones.toNat),
   (4, f.ratings.length = zones.toNat && f.ratings.all fun b => within 1 250 b.toNat),
   (5, within 2000 13000 f.maxTemp.toNat),
   (6, within f.maxTemp.toNat 13500 f.elementLimit.toNat),
   (7, within 200 3000 f.disagreeLimit.toNat),
   (8, within 10 1000 f.deviationBand.toNat),
   (9, f.idleTemp.toNat = 0 || (within 2000 9000 f.idleTemp.toNat && f.idleTemp.toNat ≤ f.maxTemp.toNat)),
   (10, within 1 200 f.idleRate.toNat),
   (11, within 1 50000 n2),
   (12, f.scaleO2.toNat ≤ 30000),
   (13, f.scaleH2.toNat ≤ 20000),
   (14, f.scaleAux.toNat ≤ 5000),
   (15, f.idleN2.toNat ≤ n2),
   (16, within 1 n2 f.purgeN2.toNat),
   (17, f.safetyN2.toNat ≤ n2),
   (18, within 100 190 f.ratio.toNat),
   (19, if 0 < f.scaleH2.toNat then within 1 f.scaleH2.toNat f.ignitionH2.toNat else f.ignitionH2.toNat = 0),
   (20, within 10 400 f.volume.toNat),
   (21, within 1 10 f.exchanges.toNat),
   (22, within 3 60 f.preflowTime.toNat),
   (23, within 2 30 f.ignitionTimeout.toNat),
   (24, within 5 120 f.postFlowTime.toNat),
   (25, within 8000 24000 f.travel.toNat),
   (26, f.boatN2Min.toNat ≤ n2),
   (27, within 50 500 f.stallLimit.toNat),
   (28, f.defaultBank.toNat ≤ 7),
   (29, within 10 600 f.starveLimit.toNat)]

/-- The configuration record that a CONFIGURE_TUBE with fitted yes writes (R173). -/
def tubeRecord (zones : Byte) (f : TubeFields) : TubeConfig :=
  { status := .fitted, activeZones := zones.toNat, ratings := f.ratings.map BitVec.toNat, maxTemp := f.maxTemp.toNat,
    elementLimit := f.elementLimit.toNat, disagreeLimit := f.disagreeLimit.toNat,
    deviationBand := f.deviationBand.toNat, idleTemp := f.idleTemp.toNat, idleRate := f.idleRate.toNat,
    scale := { n2 := f.scaleN2.toNat, o2 := f.scaleO2.toNat, h2 := f.scaleH2.toNat, aux := f.scaleAux.toNat },
    idleN2 := f.idleN2.toNat, purgeN2 := f.purgeN2.toNat, safetyN2 := f.safetyN2.toNat, ratio := f.ratio.toNat,
    ignitionH2 := f.ignitionH2.toNat, volume := f.volume.toNat, exchanges := f.exchanges.toNat,
    preflowTime := f.preflowTime.toNat, ignitionTimeout := f.ignitionTimeout.toNat,
    postFlowTime := f.postFlowTime.toNat, travel := f.travel.toNat, boatN2Min := f.boatN2Min.toNat,
    stallLimit := f.stallLimit.toNat, defaultBank := (bankOf f.defaultBank.toNat).getD 0,
    starveLimit := f.starveLimit.toNat }

/-- Fields 3 to 29 of a record as CONFIGURE_TUBE's reply carries them (R173). -/
def tubeRecordBytes (c : TubeConfig) : List Byte :=
  u8 c.activeZones ++ counted c.ratings u8 ++ u16 c.maxTemp ++ u16 c.elementLimit ++ u16 c.disagreeLimit ++
    u16 c.deviationBand ++ u16 c.idleTemp ++ u8 c.idleRate ++ flowBytes c.scale ++ u16 c.idleN2 ++ u16 c.purgeN2 ++
    u16 c.safetyN2 ++ u8 c.ratio ++ u16 c.ignitionH2 ++ u16 c.volume ++ u8 c.exchanges ++ u8 c.preflowTime ++
    u8 c.ignitionTimeout ++ u8 c.postFlowTime ++ u16 c.travel ++ u16 c.boatN2Min ++ u16 c.stallLimit ++
    u8 c.defaultBank.val ++ u16 c.starveLimit

/-- How many slots are UNCONFIGURED (R173). -/
def Configuration.unconfigured (c : Configuration) : Nat :=
  (Tube.list.filter fun t => (c.tubes.get t).status = .unconfigured).length

/-- Write a tube's configuration record; zone records above its active zones are at their reset values (R46, R172, log
entry 15). -/
def State.writeTubeConfig (s : State) (t : Tube) (c : TubeConfig) : State :=
  let th := s.thermal.get t
  let th := (Zone.list.drop c.activeZones).foldl (fun th z => th.setZone z .reset) th
  { s.setThermal t th with config := { s.config with tubes := s.config.tubes.set t c } }

/-- CONFIGURE_TUBE (R172, R173). -/
def State.configureTube (s : State) (tube fitted zones : Byte) (f : TubeFields) : State × Answer :=
  let done (t : Tube) (c : TubeConfig) : State × Answer :=
    let s := s.writeTubeConfig t c
    (s, .one (u8 t.number ++ u8 c.status.code ++ tubeRecordBytes c ++ u8 s.config.unconfigured))
  if s.config.locked then (s, .no .locked 0)
  else
    match tubeField tube, yesNo fitted with
    | none, _ => (s, .no .badField 1)
    | some _, none => (s, .no .badField 2)
    | some t, some false => done t { TubeConfig.reset with status := .notFitted }
    | some t, some true =>
      match firstFail (tubeChecks zones f) with
      | some n => (s, .no .badField n)
      | none => done t (tubeRecord zones f)

/-- CONFIGURE_BANK (R172, R174). -/
def State.configureBank (s : State) (n2 o2 h2 aux : Byte) (shed wait : Half) : State × Answer :=
  if s.config.locked then (s, .no .locked 0)
  else
    match firstFail [(1, n2.toNat = 0 || within 10 200 n2.toNat), (2, o2.toNat = 0 || within 5 100 o2.toNat),
        (3, h2.toNat = 0 || within 2 60 h2.toNat), (4, aux.toNat = 0 || within 1 10 aux.toNat),
        (5, shed.toNat ≤ 600), (6, wait.toNat = 0 || within 10 3600 wait.toNat)] with
    | some n => (s, .no .badField n)
    | none =>
      let b : BankConfig :=
        { headers := { n2 := n2.toNat, o2 := o2.toNat, h2 := h2.toNat, aux := aux.toNat }, shedBudget := shed.toNat,
          waitTimeout := wait.toNat }
      ({ s with config := { s.config with bank := b } },
        .one ([n2, o2, h2, aux] ++ u16 shed.toNat ++ u16 wait.toNat))

/-- The fitted tubes, in order. -/
def State.fittedTubes (s : State) : List Tube := Tube.list.filter fun t => (s.tubeConfig t).status = .fitted

/-- The taking of COMMISSION: lock, bring each fitted tube into service, raise the bank-line conditions present, then
SHED_ACTIVE where its line is asserted (R74, R149, R175). -/
def commissionStart (c : Ctx) : Ctx × List Task :=
  let c := c.put { c.s with config := { c.s.config with locked := true } }
  let shed := shedOnset c
  (shed.1,
    (c.s.fittedTubes.map fun t => .commissionTube t) ++
    (([.hydrogen, .interlock, .exhaust] : List BankLine).filter c.s.faults.lineCondition).map .bankDetect ++ shed.2)

/-- One event that a request begins: the notices of its effects wait for its reply (R161). -/
def State.serving (s : State) (first : Ctx → Ctx × List Task) : State :=
  (runTasks Config.cascadeBound (first (Ctx.start s true)).2 (first (Ctx.start s true)).1).s

/-- COMMISSION (R175). -/
def State.commission (s : State) : State × Answer :=
  if s.config.locked then (s, .no .locked 0)
  else if s.config.unconfigured ≠ 0 ∨ s.fittedTubes = [] then (s, .no .incomplete 0)
  else if s.alloc.budget = none then (s, .no .noBudget 0)
  else (s.serving commissionStart, .one (counted s.fittedTubes (fun t => u8 t.number) ++ u32 s.stamp))

/-- SET_CLOCK (R176). -/
def State.setClock (s : State) (offset : Quad) : State × Answer :=
  let s' := { s with time := { s.time with offset := offset.toNat } }
  (s', .one (u32 s.stamp ++ u32 s'.stamp))

/-- RESTART: refused while a tube holds a run; otherwise the link takes no further request (R177). -/
def State.restartRequest (s : State) : State × Answer :=
  if Tube.list.any fun t => (s.runState t).hasRun then (s, .no .wrongState 0)
  else (s.setLink { s.link with restarting := true }, .one [])

end Sys2Proof.Machine
end

