-- ==== Sys2Proof/Machine/Queries.lean ====
section
/-! DEFINITION. The query replies (R29, R69, R83, R99, R119, R137, R154, R164, R170): each reports its items in the order
of its rule, encoded by R166. Where R166 leaves a width or a count open, see log entry 7. -/

namespace Sys2Proof.Machine

/-- QUERY_TUBE: the 29 bytes after the segment byte (R29, R170). -/
def State.tubeContent (s : State) (t : Tube) : List Byte :=
  let r := s.run.get t
  u8 t.number ++ u8 r.state.code ++ u8 (or0 (r.recipe.map fun i => i.val + 1)) ++ u8 r.list.code ++ u8 r.step ++
    u16 r.timer ++ flag r.timeoutRaised ++ u8 (((s.currentStep t).map fun st => st.endCond.code).getD 0xFF) ++
    u16 (or0 ((s.currentStep t).map fun st => st.duration)) ++
    u8 ((if r.holdHost then 1 else 0) + (if r.holdFault then 2 else 0)) ++ u8 r.mask ++ u8 r.bank.val ++
    u8 r.params.rate ++ u16 r.params.band ++ u16 r.params.holdback ++ flag r.params.lockstep ++ flag r.tempView ++
    flag r.boatView ++ flag r.gasView ++ u8 (s.thermal.get t).inhibit.code ++
    kindByte (s.faults.pointer.get t) ++ u32 r.startStamp

/-- QUERY_ZONES (R69). -/
def State.zonesContent (s : State) (t : Tube) : List Byte :=
  let th := s.thermal.get t
  let n := (s.tubeConfig t).activeZones
  u8 th.runState.code ++ u8 n ++ u8 th.params.rate ++ u16 th.params.band ++ u16 th.params.holdback ++
    flag th.params.lockstep ++ u16 th.counter ++ flag th.stalled ++ u8 th.inhibit.code ++ u8 (s.run.get t).bank.val ++
    (activeZones n).flatMap fun z =>
      let r := th.zones.get z
      let k := s.tuning t z
      sampleBytes r.profile ++ sampleBytes r.spike ++ u16 r.sp ++ u32 r.setpoint ++ u32 r.origin ++ u32 r.target ++
        u8 r.remainder ++ flag r.complete ++ u32 r.integral ++ u16 r.demand ++ flag (s.alloc.zone t z).starved ++
        u16 k.kp ++ u16 k.ki ++ u16 k.lmax ++ flag r.tcOpen ++ flag r.overtemp ++ flag r.disagree ++ flag r.deviation

/-- QUERY_POWER (R83). -/
def State.powerContent (s : State) : List Byte :=
  let a := s.alloc
  u16 (or0 a.budget) ++ u16 s.config.bank.shedBudget ++ flag a.shed ++ u32 a.effective ++ u32 s.effectiveBudget ++
    flag a.shedActive ++
    (([.soak, .ramp, .other] : List PowerClass).flatMap fun k =>
      u32 (a.results.get k).demand ++ u32 (a.results.get k).granted ++ flag (a.results.get k).short ++
        u8 (a.pointers.get k)) ++
    bankPositions.flatMap fun p =>
      let z := a.zone p.1 p.2
      flag z.part ++ u8 z.cls.number ++ u16 ((s.thermal.get p.1).zones.get p.2).demand ++ u16 z.watts ++
        u16 z.grant ++ flag z.starved ++ u16 z.firing ++ u16 z.timer ++ flag z.starvedCond

/-- QUERY_GAS (R99). -/
def State.gasContent (s : State) : List Byte :=
  let g := s.gas
  (GasLine.list.flatMap fun l =>
    let sum := g.grantedSum l fun _ => true
    u8 (s.config.bank.headers.get l) ++ u32 sum ++ u32 (1000 * s.config.bank.headers.get l - sum)) ++
  u16 s.config.bank.waitTimeout ++
  counted g.queue (fun e => u8 e.tube.number ++ flowBytes e.flows ++ u16 e.age ++ flag e.timedOut) ++
  Tube.list.flatMap fun t =>
    flag (g.safety.get t) ++ flowBytes (g.granted.get t) ++
      GasLine.list.flatMap fun l =>
        let r := (g.lines.get t).get l
        let scale := (s.tubeConfig t).scale.get l
        u16 r.command ++ flag r.valve ++ optional16 r.readback ++ u16 scale ++ u16 (lineTolerance scale) ++
          u16 r.age ++ u8 r.devRun ++ flag r.raised ++ flag r.deviation

/-- The time that the phase timer is compared with in the present state, 0 where it is compared with none (R119). -/
def TubeConfig.phaseLimit (c : TubeConfig) : AtmState → Nat
  | .preflow => c.preflowTime
  | .ignite => c.ignitionTimeout
  | .extinguish => c.postFlowTime
  | _ => 0

/-- QUERY_ATMOSPHERE (R119). -/
def State.atmosphereContent (s : State) (t : Tube) : List Byte :=
  let a := s.atm.get t
  let c := s.tubeConfig t
  u8 a.state.code ++ u8 a.cls.code ++ u8 (phaseCode a.awaited) ++ flag a.marked ++ flowBytes a.requested ++
    flowBytes a.target ++ u8 a.targetClass.code ++ flag a.fallback ++ flowBytes a.inForce ++
    u16 (ratioLimit c.ratio a.target.o2) ++ u8 a.purgeOrigin.code ++ flag a.purged ++ u32 a.purgeTarget ++
    u32 a.purgeVolume ++ u8 a.purgeRemainder ++ u16 a.purgeTimer ++ u32 a.purgeLimit ++ flag a.incomplete ++
    u16 a.phaseTimer ++ u8 (c.phaseLimit a.state) ++ flag a.igniter ++ flag a.flame ++ flag a.safeHold

/-- The time that the boat's phase timer is compared with in the present state (R137). -/
def BoatState.phaseLimit : BoatState → Nat
  | .shutterOpening | .shutterClosing => 30
  | .settle => 10
  | _ => 0

/-- QUERY_BOAT (R137). Whether a move is pending is a yes/no byte of its own; its target, whose range includes 0, has the
presence byte of R166 after it. -/
def State.boatContent (s : State) (t : Tube) : List Byte :=
  let b := s.boat.get t
  let c := s.tubeConfig t
  u8 b.state.code ++ flag b.target.isSome ++ optional16 b.target ++ u16 b.stepSpeed ++ flag b.closePending ++
    flag b.failed ++
    optional16 b.pos ++ optional16 b.measured ++ optional16 b.offset? ++ u8 b.remainder ++ u16 b.effSpeed ++
    u16 b.speedCmd ++ u8 b.direction.code ++ u8 ((if b.pauseHold then 1 else 0) + (if b.pauseN2 then 2 else 0)) ++
    flag b.holdFlag ++ u16 b.phaseTimer ++ u8 b.state.phaseLimit ++ u8 b.shutter.code ++ flag b.openLimit ++
    flag b.closedLimit ++ counted b.speedTable (fun e => u16 e.1 ++ u16 e.2) ++ sampleBytes (s.mouth t) ++
    u16 (speedLimit b.speedTable (s.mouth t)) ++ optional16 (s.gas.lines.get t).n2.readback ++ u16 c.boatN2Min ++
    u8 (s.atm.get t).state.code ++ u16 c.stallLimit ++ u16 c.travel

/-- A policy record: enable, level, action. -/
def policyBytes (p : PolicyRec) : List Byte := flag p.enable ++ u8 p.level ++ u8 p.action.code

/-- QUERY_FAULTS (R154). Whether an entry is a holding one and whether its condition is present stand inside each status
entry, after its stamp; the bank lines stand in the order hydrogen, interlock, exhaust, the three levels before the three
conditions: the model's choices (log entry 7). -/
def State.faultsContent (s : State) (t : Tube) : List Byte :=
  let f := s.faults
  counted (FaultKind.list.filterMap fun k => (f.entry? t k).map fun e => (k, e)) (fun p =>
      u8 p.1.code ++ u8 p.2.count ++ flag p.2.acted ++ u32 p.2.stamp ++ flag (f.holdingEntry t p.1) ++
        flag (s.condition t p.1)) ++
    kindByte (f.pointer.get t) ++ u8 (s.run.get t).mask ++ u8 (s.thermal.get t).inhibit.code ++
    flag f.hydrogen ++ flag f.interlock ++ flag f.exhaust ++
    flag (f.lineCondition .hydrogen) ++ flag (f.lineCondition .interlock) ++ flag (f.lineCondition .exhaust) ++
    (FaultKind.list.flatMap fun k => policyBytes (f.policyOf k) ++ flag k.fixed) ++ u8 f.log.length ++ u32 f.nextSeq

/-- A query that carries a tube number (R69, R119, R137, R154). -/
def queryTubeField (tube : Byte) (content : Tube → List Byte) : Answer :=
  match tubeField tube with
  | some t => .segmented (content t)
  | none => .no .badField 1

/-- IDENTIFY: "LFV", "DB-450", revision 1, 4 slots, 5 zones (R164). -/
def identifyContent : List Byte :=
  counted ([0x4C, 0x46, 0x56] : List Byte) (fun b => [b]) ++
    counted ([0x44, 0x42, 0x2D, 0x34, 0x35, 0x30] : List Byte) (fun b => [b]) ++ u8 1 ++ u8 4 ++ u8 5

/-- The records that READ_LOG carries, and the GAP mark (R152). -/
def Faults.readFrom (f : Faults) (start : Nat) : List LogRec × Bool :=
  let oldest := (f.log.head?.map LogRec.seq).getD 0
  if f.nextSeq < start then (f.log.take 8, true)
  else ((f.log.filter fun r => start ≤ r.seq).take 8, f.log ≠ [] && start < oldest)

/-- READ_LOG (R152, R171). -/
def State.readLog (s : State) (start : Quad) : Answer :=
  let f := s.faults
  let r := f.readFrom start.toNat
  .one (u8 f.log.length ++ u32 ((f.log.head?.map LogRec.seq).getD 0) ++ u32 f.nextSeq ++ flag r.2 ++
    counted r.1 LogRec.bytes)

end Sys2Proof.Machine
end

