-- ==== Sys2Proof/Machine/Recipes.lean ====
section
/-! DEFINITION. The recipe store (chapter 2): opening a load, writing steps, closing, cancelling, dropping, reading. -/

namespace Sys2Proof.Machine

/-- The free count of the step pool (R31). -/
def Store.free (st : Store) : Nat := 384 - st.reserved

/-- The records a recipe takes from the pool (R31). -/
def Recipe.records (r : Recipe) : Nat := r.mainCount + r.tailCount

/-- Empty a slot and return its records to the pool (R40, R42). -/
def Store.discard (st : Store) (i : Fin 16) : Store :=
  match st.recipe? i with
  | some r => { st.setSlot i none with reserved := st.reserved - r.records }
  | none => st

/-- Whether a name is of 1 to 16 printable characters (R30). -/
def nameOk (name : List Byte) : Bool :=
  within 1 16 name.length && name.all fun b => within 0x20 0x7E b.toNat

/-- RECIPE_OPEN (R34, R35). LOAD_OPEN, OCCUPIED and STORE_FULL carry the field index 0 (log entry 39). -/
def State.recipeOpen (s : State) (slot : Byte) (name : List Byte) (owner resident zones main tail : Byte) :
    State × Answer :=
  let st := s.store
  match firstFail [(1, (slotField slot).isSome), (2, nameOk name), (4, (yesNo resident).isSome),
      (5, within 3 5 zones.toNat), (6, within 1 48 main.toNat), (7, within 0 8 tail.toNat)], slotField slot with
  | some n, _ => (s, .no .badField n)
  | none, none => (s, .no .badField 1)
  | none, some i =>
    let n := main.toNat + tail.toNat
    if st.load.isSome then (s, .no .loadOpen 0)
    else if (st.recipe? i).isSome then (s, .no .occupied 0)
    else if st.free < n then (s, .no .storeFull 0)
    else
      let r : Recipe :=
        { closed := false, name := name, owner := owner.toNat, resident := (yesNo resident).getD false,
          zoneCount := zones.toNat, mainCount := main.toNat, tailCount := tail.toNat, main := [], tail := [],
          inUse := 0 }
      let st := { st.setSlot i (some r) with
        reserved := st.reserved + n
        load := some { slot := i, mainCount := main.toNat, tailCount := tail.toNat, next := .step .main 1,
                       storedMain := 0, storedTail := 0 } }
      (s.setStore st, .one (u8 (i.val + 1) ++ u8 n ++ u16 st.free))

/-! ### The check of a step record (R32, R37) -/

/-- A field that may be absent must pass a test where it is present. -/
def optOk {α : Type} (o : Option α) (p : α → Bool) : Bool :=
  match o with
  | some v => p v
  | none => true

/-- The checks of a step record in the order of its field numbers (R37). -/
def stepChecks (zones : Nat) (r : RawStep) : List (Reason × Nat × Bool) :=
  [(.badField, 1, (r.endCond.bind fun b => EndCond.ofCode b.toNat).isSome),
   (.badField, 2, (r.duration.map fun h => decide (1 ≤ h.toNat)).getD false),
   (.mismatch, 3, optOk r.targets fun l => l.length = zones),
   (.badField, 3, optOk r.targets fun l => l.all fun h => within 2000 12500 h.toNat),
   (.badField, 4, optOk r.rate fun b => within 1 200 b.toNat),
   (.badField, 5, optOk r.band fun h => h.toNat = 0 || within 5 500 h.toNat),
   (.badField, 7, optOk r.lockstep fun b => (yesNo b).isSome),
   (.badField, 8, optOk r.n2 fun h => h.toNat ≤ 50000),
   (.badField, 9, optOk r.o2 fun h => h.toNat ≤ 30000),
   (.badField, 10, optOk r.h2 fun h => h.toNat ≤ 20000),
   (.badField, 11, optOk r.aux fun h => h.toNat ≤ 5000),
   (.badField, 12, optOk r.move fun m => m.1.toNat ≤ 24000),
   (.badField, 13, optOk r.move fun m => within 10 600 m.2.toNat),
   (.badField, 14, optOk r.bank fun b => b.toNat ≤ 7),
   (.badField, 15, optOk r.mask fun b => b.toNat ≤ 6)]

/-- The step that a record which passes its checks stands for (R32). -/
def stepOf (r : RawStep) : Step :=
  { endCond := (r.endCond.bind fun b => EndCond.ofCode b.toNat).getD .time
    duration := (r.duration.map BitVec.toNat).getD 0
    targets := r.targets.map fun l => l.map BitVec.toNat
    rate := r.rate.map BitVec.toNat
    band := r.band.map BitVec.toNat
    holdback := r.holdback.map BitVec.toNat
    lockstep := r.lockstep.map fun b => (yesNo b).getD false
    flows := { n2 := r.n2.map BitVec.toNat, o2 := r.o2.map BitVec.toNat, h2 := r.h2.map BitVec.toNat,
               aux := r.aux.map BitVec.toNat }
    move := r.move.map fun m => (m.1.toNat, m.2.toNat)
    bank := r.bank.bind fun b => bankOf b.toNat
    mask := r.mask.map BitVec.toNat }

/-- The position after a stored step (R38). -/
def LoadCtx.advance (c : LoadCtx) (l : ListSel) (i : Nat) : Position :=
  match l with
  | .main => if i < c.mainCount then .step .main (i + 1) else if 0 < c.tailCount then .step .tail 1 else .complete
  | .tail => if i < c.tailCount then .step .tail (i + 1) else .complete

/-- A step added at the end of one of a recipe's lists (R38). -/
def Recipe.append (r : Recipe) (l : ListSel) (st : Step) : Recipe :=
  match l with
  | .main => { r with main := r.main ++ [st] }
  | .tail => { r with tail := r.tail ++ [st] }

/-- RECIPE_STEP (R36 to R38). -/
def State.recipeStep (s : State) (list index : Byte) (r : RawStep) : State × Answer :=
  match s.store.load with
  | none => (s, .no .wrongState 0)
  | some c =>
    match ListSel.ofCode list.toNat, s.store.recipe? c.slot with
    | some l, some rc =>
      if c.next = .step l index.toNat then
        match (stepChecks rc.zoneCount r).find? fun k => !k.2.2 with
        | some k => (s, .no k.1 k.2.1)
        | none =>
          let next := c.advance l index.toNat
          let c := { c with
            next := next
            storedMain := if l = .main then c.storedMain + 1 else c.storedMain
            storedTail := if l = .tail then c.storedTail + 1 else c.storedTail }
          (s.setStore { s.store.setSlot c.slot (some (rc.append l (stepOf r))) with load := some c },
            .one (u8 l.code ++ u8 index.toNat ++ positionBytes next))
      else (s, .no .badSequence 0)
    | _, _ => (s, .no .badSequence 0)

/-- RECIPE_CLOSE (R39). -/
def State.recipeClose (s : State) : State × Answer :=
  match s.store.load with
  | none => (s, .no .wrongState 0)
  | some c =>
    if c.next = .complete then
      match s.store.recipe? c.slot with
      | some r =>
        (s.setStore { s.store.setSlot c.slot (some { r with closed := true, inUse := 0 }) with load := none },
          .one (u8 (c.slot.val + 1) ++ u8 r.mainCount ++ u8 r.tailCount ++ u16 s.store.free))
      | none => (s, .no .incomplete 0)
    else (s, .no .incomplete 0)

/-- RECIPE_CANCEL (R40). -/
def State.recipeCancel (s : State) : State × Answer :=
  match s.store.load with
  | none => (s, .no .wrongState 0)
  | some c =>
    let st := { s.store.discard c.slot with load := none }
    (s.setStore st, .one (u8 (c.slot.val + 1) ++ u16 st.free))

/-- RECIPE_DROP (R42). NO_SUCH_RECIPE, LOAD_OPEN and IN_USE carry the field index 0 (log entry 39). -/
def State.recipeDrop (s : State) (slot : Byte) : State × Answer :=
  match slotField slot with
  | none => (s, .no .badField 1)
  | some i =>
    match s.store.recipe? i with
    | none => (s, .no .noSuchRecipe 0)
    | some r =>
      if r.closed = false then (s, .no .loadOpen 0)
      else if r.inUse ≠ 0 then (s, .no .inUse 0)
      else
        let st := s.store.discard i
        (s.setStore st, .one (u8 (i.val + 1) ++ u8 r.records ++ u16 st.free))

/-- What RECIPE_DROP_OWNER has dropped, skipped and returned so far (R43). -/
structure DropCount where
  store : Store
  dropped : Nat
  skipped : Nat
  returned : Nat
deriving DecidableEq, Repr

/-- RECIPE_DROP_OWNER at one slot (R43). -/
def DropCount.visit (d : DropCount) (owner : Nat) (i : Fin 16) : DropCount :=
  match d.store.recipe? i with
  | some r =>
    if r.closed ∧ r.owner = owner then
      if r.resident = false ∧ r.inUse = 0 then
        { d with store := d.store.discard i, dropped := d.dropped + 1, returned := d.returned + r.records }
      else { d with skipped := d.skipped + 1 }
    else d
  | none => d

/-- RECIPE_DROP_OWNER (R43). -/
def State.recipeDropOwner (s : State) (owner : Byte) : State × Answer :=
  let start : DropCount := { store := s.store, dropped := 0, skipped := 0, returned := 0 }
  let d := (List.finRange 16).foldl (fun (d : DropCount) i => d.visit owner.toNat i) start
  (s.setStore d.store, .one (u8 d.dropped ++ u8 d.skipped ++ u16 d.returned ++ u16 d.store.free))

/-- The header of a recipe, as READ_RECIPE reports it (R44). -/
def recipeHeader (i : Fin 16) (r : Recipe) (free : Nat) : List Byte :=
  u8 (i.val + 1) ++ u8 (if r.closed then 2 else 1) ++ counted r.name (fun b => [b]) ++ u8 r.owner ++
    flag r.resident ++ u8 r.zoneCount ++ u8 r.mainCount ++ u8 r.tailCount ++ u8 r.main.length ++ u8 r.tail.length ++
    u8 r.inUse ++ u16 free

/-- The declared length of one of a recipe's lists. -/
def Recipe.declared (r : Recipe) : ListSel → Nat
  | .main => r.mainCount
  | .tail => r.tailCount

/-- READ_RECIPE (R44, log entry 34). NO_SUCH_RECIPE and INCOMPLETE carry the field index 0 (log entry 39). -/
def State.readRecipe (s : State) (slot list index : Byte) : Answer :=
  match slotField slot, ListSel.ofCode list.toNat with
  | none, _ => .no .badField 1
  | some _, none => .no .badField 2
  | some i, some l =>
    if 48 < index.toNat then .no .badField 3
    else
      match s.store.recipe? i with
      | none => .no .noSuchRecipe 0
      | some r =>
        if index.toNat = 0 then .one (recipeHeader i r s.store.free)
        else if r.declared l < index.toNat then .no .badField 3
        else
          match r.step? l index.toNat with
          | some st => .one (u8 l.code ++ u8 index.toNat ++ stepBytes st.raw)
          | none => .no .incomplete 0

end Sys2Proof.Machine
end

