-- ==== Sys2Proof/Machine/Requests.lean ====
section
/-! DEFINITION. The requests of the host at their owners (R160): each is judged in the order its rule gives and forms
one answer. -/

namespace Sys2Proof.Machine

/-! ### Requests of the run controllers (R8, R9, R19, R21 to R23, R25, R26) -/

/-- The answer of a request of a run controller: the tube and its run state after the request. -/
def State.stateAnswer (s : State) (t : Tube) : Answer := .one (u8 t.number ++ u8 (s.runState t).code)

/-- A request that names a tube and begins an event: refused by its field, or by its checks, or taken. -/
def State.tubeRequest (s : State) (tube : Byte) (check : Tube → Option Reason)
    (first : Tube → Ctx → Ctx × List Task) : State × Answer :=
  match tubeField tube with
  | none => (s, .no .badField 1)
  | some t =>
    match check t with
    | some r => (s, .no r 0)
    | none =>
      let s' := s.serving (first t)
      (s', s'.stateAnswer t)

/-- WRONG_STATE unless a test holds. -/
def unlessState (p : Bool) : Option Reason := if p then none else some .wrongState

/-- The first field of a step that does not fit a tube (check 4 of R8). -/
def TubeConfig.stepRange (c : TubeConfig) (st : Step) : Option Nat :=
  firstFail [(8, optOk st.flows.n2 fun v => v ≤ c.scale.n2), (9, optOk st.flows.o2 fun v => v ≤ c.scale.o2),
    (10, optOk st.flows.h2 fun v => v ≤ c.scale.h2), (11, optOk st.flows.aux fun v => v ≤ c.scale.aux),
    (12, optOk st.move fun m => m.1 ≤ c.travel)]

/-- The first failing field of a list of steps, with its list code and step index, counting from `i`. -/
def TubeConfig.listRange (c : TubeConfig) (l : ListSel) : Nat → List Step → Option (Nat × Nat × Nat)
  | _, [] => none
  | i, st :: sts =>
    match c.stepRange st with
    | some n => some (l.code, i, n)
    | none => c.listRange l (i + 1) sts

/-- The first failing field of a recipe: the main list, then the tail (check 4 of R8). -/
def TubeConfig.recipeRange (c : TubeConfig) (r : Recipe) : Option (Nat × Nat × Nat) :=
  match c.listRange .main 1 r.main with
  | some p => some p
  | none => c.listRange .tail 1 r.tail

/-- The checks of RUN (R8). -/
def State.runCheck (s : State) (t : Tube) (i : Fin 16) : Option Answer :=
  if s.runState t ≠ .idle then some (.no .wrongState 0)
  else
    match s.store.recipe? i with
    | none => some (.no .noSuchRecipe 0)
    | some r =>
      if r.closed = false then some (.no .noSuchRecipe 0)
      else if r.zoneCount ≠ (s.tubeConfig t).activeZones then some (.no .mismatch 0)
      else
        match (s.tubeConfig t).recipeRange r with
        | some p => some (.refuse .range p.2.2 (p.1, p.2.1))
        | none => if s.faults.anyHolding t then some (.no .faultPending 0) else none

/-- The taking of RUN: the run record, the boat, the change to RUNNING, main step 1 (R9). -/
def runStart (t : Tube) (i : Fin 16) (c : Ctx) : Ctx × List Task :=
  let c := (c.put (c.s.startRun t i)).setBusy t true
  let r := putBoat t (c.s.boat.get t).release.dropFailed c
  (r.1.changeState t .running .run, r.2 ++ [.enter t .main 1])

/-- RUN (R8, R9). -/
def State.runRequest (s : State) (tube slot : Byte) : State × Answer :=
  match tubeField tube, slotField slot with
  | none, _ => (s, .no .badField 1)
  | some _, none => (s, .no .badField 2)
  | some t, some i =>
    match s.runCheck t i with
    | some a => (s, a)
    | none => (s.serving (runStart t i), .one (u8 t.number ++ u8 (i.val + 1) ++ u32 s.stamp))

/-- HOLD (R19). -/
def State.holdRequest (s : State) (tube : Byte) : State × Answer :=
  s.tubeRequest tube (fun t => unlessState (s.runState t = .running)) fun t c =>
    (c.put (c.s.setRun t { c.s.run.get t with holdHost := true }), [.enterHolding t .hold])

/-- RESUME (R21). -/
def State.resumeRequest (s : State) (tube : Byte) : State × Answer :=
  s.tubeRequest tube
    (fun t => if s.runState t ≠ .holding then some .wrongState
              else if s.faults.anyHolding t then some .faultPending else none)
    fun t c => (c, [.leaveHolding t])

/-- SKIP_STEP (R22). -/
def State.skipRequest (s : State) (tube : Byte) : State × Answer :=
  s.tubeRequest tube (fun t => unlessState (s.runState t = .running)) fun t c => (c, [.stepEnd t])

/-- ABORT (R23). -/
def State.abortRequest (s : State) (tube : Byte) : State × Answer :=
  s.tubeRequest tube (fun t => unlessState (s.runState t = .running ∨ s.runState t = .holding)) fun t c =>
    (c, [.abort t .abort])

/-- SAFE_STOP (R25). -/
def State.safeStopRequest (s : State) (tube : Byte) : State × Answer :=
  s.tubeRequest tube (fun t => unlessState (s.runState t ≠ .offline ∧ s.runState t ≠ .safe)) fun t c =>
    (c, [.enterSafe t .safeStop])

/-- The taking of RECOVER (R26). -/
def recoverStart (t : Tube) (c : Ctx) : Ctx × List Task :=
  let c := c.put (c.s.clearInhibit t)
  let r := putBoat t (c.s.boat.get t).release c
  ((r.1.put (r.1.s.leaveSafe t)).changeState t .idle .recover, r.2 ++ [.idle t])

/-- RECOVER (R26). -/
def State.recoverRequest (s : State) (tube : Byte) : State × Answer :=
  s.tubeRequest tube
    (fun t => if s.runState t ≠ .safe then some .wrongState
              else if s.recoverBlocked t then some .conditionPresent
              else if s.faults.anySafe t then some .faultPending else none)
    recoverStart

/-! ### Tuning, power, boat (R67, R73, R129, R136) -/

/-- The checks of one entry of LOAD_TUNING, its Kp being field `n` (R67). -/
def tuningChecks (n : Nat) (e : TuningFields) : List (Nat × Bool) :=
  [(n, e.kp.toNat ≤ 9999), (n + 1, e.ki.toNat ≤ 9999), (n + 2, e.lmax.toNat ≤ 1000)]

/-- The constants of an entry of LOAD_TUNING. -/
def tuningOf (e : TuningFields) : Tuning := { kp := e.kp.toNat, ki := e.ki.toNat, lmax := e.lmax.toNat }

/-- LOAD_TUNING (R67, R68). -/
def State.loadTuning (s : State) (bank : Byte) (e1 e2 e3 e4 e5 : TuningFields) : State × Answer :=
  match bankOf bank.toNat, firstFail (tuningChecks 2 e1 ++ tuningChecks 5 e2 ++ tuningChecks 8 e3 ++
      tuningChecks 11 e4 ++ tuningChecks 14 e5) with
  | none, _ => (s, .no .badField 1)
  | some _, some n => (s, .no .badField n)
  | some b, none =>
    let entries : PerZone Tuning :=
      { z1 := tuningOf e1, z2 := tuningOf e2, z3 := tuningOf e3, z4 := tuningOf e4, z5 := tuningOf e5 }
    let users := Tube.list.filter fun t => (s.run.get t).bank = b
    (users.foldl (fun s t => s.limitDemands t) { s with banks := s.banks.set b.val entries b.isLt },
      .one (u8 b.val ++ u8 users.length))

/-- SET_BUDGET (R73). -/
def State.setBudget (s : State) (budget : Half) : State × Answer :=
  if within 10 600 budget.toNat then
    let s' := s.setAlloc { s.alloc with budget := some budget.toNat }
    (s', .one (u16 budget.toNat ++ u16 (or0 s.alloc.budget) ++ flag s.alloc.shed ++ u16 (s'.effectiveBudget / 1000)))
  else (s, .no .badField 1)

/-- The checks of the entries of SET_SPEED_TABLE, entry `k` first, after an entry of threshold and speed `prev`
(R129). -/
def speedChecks : Nat → Option (Nat × Nat) → List (Half × Half) → List (Nat × Bool)
  | _, _, [] => []
  | k, prev, e :: es =>
    [(1 + 2 * k, e.1.toNat ≤ 14000 && optOk prev fun p => p.1 < e.1.toNat),
     (2 + 2 * k, within 10 600 e.2.toNat && optOk prev fun p => e.2.toNat ≤ p.2)] ++
      speedChecks (k + 1) (some (e.1.toNat, e.2.toNat)) es

/-- SET_SPEED_TABLE (R129). -/
def State.setSpeedTable (s : State) (tube : Byte) (entries : List (Half × Half)) : State × Answer :=
  match tubeField tube, firstFail ((2, decide (entries.length ≤ 6)) :: speedChecks 1 none entries) with
  | none, _ => (s, .no .badField 1)
  | some _, some n => (s, .no .badField n)
  | some t, none =>
    let table := entries.map fun e => (e.1.toNat, e.2.toNat)
    (s.setBoat t { s.boat.get t with speedTable := table },
      .one (u8 t.number ++ u8 table.length ++ u16 (speedLimit table (s.mouth t))))

/-- BOAT_JOG (R136). -/
def State.boatJog (s : State) (tube : Byte) (target speed : Half) : State × Answer :=
  match tubeField tube, firstFail [(2, decide (target.toNat ≤ 24000)), (3, within 10 600 speed.toNat)] with
  | none, _ => (s, .no .badField 1)
  | some _, some n => (s, .no .badField n)
  | some t, none =>
    if s.runState t ≠ .idle then (s, .no .wrongState 0)
    else if (s.tubeConfig t).travel < target.toNat then (s, .refuse .range 2 (0xFF, 0))
    else if (s.boat.get t).state = .stalled then (s, .no .wrongState 0)
    else
      let s' := s.serving fun c => (c, [.moveRequest t target.toNat speed.toNat])
      let b := s'.boat.get t
      (s', .one (u8 t.number ++ u8 b.state.code ++ optional16 b.pos ++ flag b.target.isSome))

/-! ### Faults and link (R140, R145, R163) -/

/-- SET_FAULT_POLICY (R140). -/
def State.setFaultPolicy (s : State) (kind enable level action : Byte) : State × Answer :=
  match FaultKind.ofCode kind.toNat, yesNo enable, PolicyAction.ofCode action.toNat with
  | none, _, _ => (s, .no .badField 1)
  | some _, none, _ => (s, .no .badField 2)
  | some k, some e, a =>
    if within 1 7 level.toNat then
      match a with
      | none => (s, .no .badField 4)
      | some a =>
        if k.fixed then (s, .no .fixedKind 0)
        else
          let p : PolicyRec := { enable := e, level := level.toNat, action := a }
          (s.setFaults { s.faults with policy := s.faults.policy.set k.index.val p k.index.isLt },
            .one (u8 k.code ++ policyBytes p ++ policyBytes (s.faults.policyOf k)))
    else (s, .no .badField 3)

/-- The kinds that CLEAR_FAULTS names, in ascending order of code; an empty list names every kind (R145). -/
def namedKinds (codes : List Byte) : List FaultKind :=
  FaultKind.list.filter fun k => codes = [] || codes.any fun b => b.toNat = k.code

/-- Remove the entry of a kind, emptying the pointer where it names the kind (R145, R146). -/
def Faults.clear (f : Faults) (t : Tube) (k : FaultKind) : Faults :=
  let f := f.setEntry t k none
  if f.pointer.get t = some k then { f with pointer := f.pointer.set t none } else f

/-- CLEAR_FAULTS (R145). -/
def State.clearFaults (s : State) (tube : Byte) (codes : List Byte) : State × Answer :=
  match tubeField tube, codes.findIdx? fun b => (FaultKind.ofCode b.toNat).isNone with
  | none, _ => (s, .no .badField 1)
  | some _, some n => (s, .no .badField (n + 2))
  | some t, none =>
    let held := (namedKinds codes).filter fun k => (s.faults.entry? t k).isSome
    let removed := held.filter fun k => !s.condition t k
    let kept := held.filter fun k => s.condition t k
    let f := removed.foldl (fun f k => f.clear t k) s.faults
    (s.setFaults f,
      .one (u8 t.number ++ counted removed (fun k => u8 k.code) ++ counted kept (fun k => u8 k.code) ++
        kindByte (f.pointer.get t)))

/-- SET_NOTICES (R163). -/
def State.setNotices (s : State) (a b c d : Byte) : State × Answer :=
  match yesNo a, yesNo b, yesNo c, yesNo d with
  | none, _, _, _ => (s, .no .badField 1)
  | some _, none, _, _ => (s, .no .badField 2)
  | some _, some _, none, _ => (s, .no .badField 3)
  | some _, some _, some _, none => (s, .no .badField 4)
  | some a, some b, some c, some d =>
    (s.setLink { s.link with enables := { stepEntered := a, runEnded := b, faultActed := c, tubeState := d } },
      .one (flag a ++ flag b ++ flag c ++ flag d ++ u8 s.link.notices.length ++ flag s.link.lost))

/-- Hand a decoded request to its owner (R160). -/
def State.serve (s : State) : Request → State × Answer
  | .identify => (s, .one identifyContent)
  | .setNotices a b c d => s.setNotices a b c d
  | .configureTube t f z fs => s.configureTube t f z fs
  | .configureBank a b c d x w => s.configureBank a b c d x w
  | .commission => s.commission
  | .setClock o => s.setClock o
  | .restart => s.restartRequest
  | .run t i => s.runRequest t i
  | .hold t => s.holdRequest t
  | .resume t => s.resumeRequest t
  | .skipStep t => s.skipRequest t
  | .abort t => s.abortRequest t
  | .safeStop t => s.safeStopRequest t
  | .recover t => s.recoverRequest t
  | .queryTube t => (s, queryTubeField t s.tubeContent)
  | .recipeOpen i n o r z m k => s.recipeOpen i n o r z m k
  | .recipeStep l i r => s.recipeStep l i r
  | .recipeClose => s.recipeClose
  | .recipeCancel => s.recipeCancel
  | .recipeDrop i => s.recipeDrop i
  | .recipeDropOwner o => s.recipeDropOwner o
  | .readRecipe i l n => (s, s.readRecipe i l n)
  | .loadTuning b e1 e2 e3 e4 e5 => s.loadTuning b e1 e2 e3 e4 e5
  | .queryZones t => (s, queryTubeField t s.zonesContent)
  | .setBudget b => s.setBudget b
  | .queryPower => (s, .segmented s.powerContent)
  | .queryGas => (s, .segmented s.gasContent)
  | .queryAtmosphere t => (s, queryTubeField t s.atmosphereContent)
  | .setSpeedTable t es => s.setSpeedTable t es
  | .boatJog t x v => s.boatJog t x v
  | .queryBoat t => (s, queryTubeField t s.boatContent)
  | .setFaultPolicy k e l a => s.setFaultPolicy k e l a
  | .clearFaults t ks => s.clearFaults t ks
  | .readLog q => (s, s.readLog q)
  | .queryFaults t => (s, queryTubeField t s.faultsContent)

end Sys2Proof.Machine
end

