-- ==== Sys2Proof/Machine/Link.lean ====
section
/-! DEFINITION. The link controller (chapter 9): the receive assembler, the placing of good frames, the taking of
requests, the end of a transmission; and the commands of the host line. -/

namespace Sys2Proof.Machine

/-! ### Taking requests (R160) -/

/-- A decoded frame is refused by the link or handed to its owner; the answer is the one reply (R160). -/
def State.answerFrame (s : State) (f : Frame) : State × Answer :=
  match decodeRequest f.kind f.payload with
  | .badKind => (s, .no .badKind 0)
  | .badLength => (s, .no .badLength 0)
  | .request r => s.serve r

/-- Take a frame that has left the request queue: its reply is placed at the back of the reply queue, and the OK of a
RESTART is marked (R160, R177). -/
def State.takeFrame (s : State) (f : Frame) : State :=
  let r := s.answerFrame f
  let reply := r.2.reply f.kind f.tag
  r.1.setLink (r.1.link.placeReply { reply with restarts := reply.kind = 0x94 })

/-- Whether the head request may be taken: no request reply waits that has not begun transmission (R160), and no
RESTART has been taken (R177). -/
def Link.ready (l : Link) : Bool := !l.requestReplyWaits && !l.restarting

/-- The test of R160, made again after each request taken, at most `n` times. -/
def takeRequests : Nat → State → State
  | 0, s => s
  | n + 1, s =>
    match s.link.requests with
    | [] => s
    | f :: fs =>
      if s.link.ready then takeRequests n ((s.setLink { s.link with requests := fs }).takeFrame f) else s

/-- Take what the request queue holds, as far as replies leave room (R160). -/
def State.takeAll (s : State) : State := takeRequests (s.link.requests.length) s

/-- The completion of a good frame (R159, R160). -/
def State.completeGood (s : State) (f : Frame) : State :=
  let l := s.link
  let s := s.setLink
    (if l.requests.length < 4 then { l with requests := l.requests ++ [f] }
     else l.placeLinkReply (busyReply f.kind f.tag))
  s.takeAll

/-! ### The receive assembler (R157, R158) -/

/-- The assembler back at HUNTING, its partial frame discarded (R157). -/
def Link.hunt (l : Link) : Link := { l with asm := .hunting, asmLength := 0, asmBytes := [] }

/-- The completion of a frame: judged by its check byte (R158). The assembler has collected the kind, the tag and the
payload. -/
def State.completeFrame (s : State) (check : Byte) : State :=
  let l := s.link
  let bytes := l.asmBytes
  let kind := bytes.getD 0 0
  let tag := bytes.getD 1 0
  let s := s.setLink l.hunt
  if crc8 (BitVec.ofNat 8 l.asmLength :: bytes) = check then
    s.completeGood { kind := kind, tag := tag, payload := bytes.drop 2 }
  else s.setLink (s.link.placeLinkReply (rejectReply kind tag))

/-- A byte received (R157). -/
def State.receive (s : State) (b : Byte) : State :=
  let l := s.link
  match l.asm with
  | .hunting => if b = 0xC3 then s.setLink { l with asm := .length } else s
  | .length =>
    if within 2 250 b.toNat then s.setLink { l with asm := .body, asmLength := b.toNat, asmBytes := [] }
    else s.setLink l.hunt
  | .body =>
    s.setLink { l with
      asmBytes := l.asmBytes ++ [b]
      asm := if l.asmBytes.length + 1 < l.asmLength then .body else .check }
  | .check => s.completeFrame b

/-- The transmitter falls free (R161); at the end of the OK of a RESTART the reset takes effect (R177). -/
def State.transmitComplete (s : State) : State :=
  match s.link.tx with
  | none => s
  | some (.reply r) =>
    if r.restarts then State.resetAt s.lines false s.pending
    else State.takeAll (s.setLink (Link.arbitrate { s.link with tx := none }))
  | some (.notice _) => State.takeAll (s.setLink (Link.arbitrate { s.link with tx := none }))

/-! ### The commands of the host line -/

/-- An event of the part: nothing happens while it is held in reset (R177, log entry 5). -/
def State.act (s : State) (f : State → State) : Out := .next (if s.inReset then s else f s)

/-- A request of the host: its good frame completes on the line (R159, R160, log entry 2). -/
def State.host (s : State) (tag : Byte) (r : Request) : Out := s.act fun s => s.completeGood (requestFrame r tag)

/-- RX_BYTE (R157 to R159). -/
def execRxByte (b : Byte) (s : State) : Out := s.act fun s => s.receive b

/-- RX_FRAMING_ERROR (R157). -/
def execRxFramingError (s : State) : Out := s.act fun s => s.setLink s.link.hunt

/-- SILENCE_TIMEOUT; the timer does not run in HUNTING (R157). -/
def execSilenceTimeout (s : State) : Out := s.act fun s => s.setLink s.link.hunt

/-- TAKE_REQUEST: the test of R160. -/
def execTakeRequest (s : State) : Out := s.act fun s => s.takeAll

/-- TRANSMIT_COMPLETE (R161). -/
def execTransmitComplete (s : State) : Out := s.act fun s => s.transmitComplete

/-- IDENTIFY (R164). -/
def execIdentify (tag : Byte) (s : State) : Out := s.host tag .identify

/-- SET_NOTICES (R163). -/
def execSetNotices (tag a b c d : Byte) (s : State) : Out := s.host tag (.setNotices a b c d)

/-- CONFIGURE_TUBE (R173). -/
def execConfigureTube (tag tube fitted zones : Byte) (f : TubeFields) (s : State) : Out :=
  s.host tag (.configureTube tube fitted zones f)

/-- CONFIGURE_BANK (R174). -/
def execConfigureBank (tag n2 o2 h2 aux : Byte) (shed wait : Half) (s : State) : Out :=
  s.host tag (.configureBank n2 o2 h2 aux shed wait)

/-- COMMISSION (R175). -/
def execCommission (tag : Byte) (s : State) : Out := s.host tag .commission

/-- SET_CLOCK (R176). -/
def execSetClock (tag : Byte) (offset : Quad) (s : State) : Out := s.host tag (.setClock offset)

/-- RESTART (R177). -/
def execRestart (tag : Byte) (s : State) : Out := s.host tag .restart

/-- RUN (R8, R9). -/
def execRun (tag tube slot : Byte) (s : State) : Out := s.host tag (.run tube slot)

/-- HOLD (R19). -/
def execHold (tag tube : Byte) (s : State) : Out := s.host tag (.hold tube)

/-- RESUME (R21). -/
def execResume (tag tube : Byte) (s : State) : Out := s.host tag (.resume tube)

/-- SKIP_STEP (R22). -/
def execSkipStep (tag tube : Byte) (s : State) : Out := s.host tag (.skipStep tube)

/-- ABORT (R23). -/
def execAbort (tag tube : Byte) (s : State) : Out := s.host tag (.abort tube)

/-- SAFE_STOP (R25). -/
def execSafeStop (tag tube : Byte) (s : State) : Out := s.host tag (.safeStop tube)

/-- RECOVER (R26). -/
def execRecover (tag tube : Byte) (s : State) : Out := s.host tag (.recover tube)

/-- QUERY_TUBE (R29). -/
def execQueryTube (tag tube : Byte) (s : State) : Out := s.host tag (.queryTube tube)

/-- RECIPE_OPEN (R34, R35). -/
def execRecipeOpen (tag slot : Byte) (name : List Byte) (owner resident zones main tail : Byte) (s : State) : Out :=
  s.host tag (.recipeOpen slot name owner resident zones main tail)

/-- RECIPE_STEP (R36 to R38). -/
def execRecipeStep (tag list index : Byte) (record : RawStep) (s : State) : Out :=
  s.host tag (.recipeStep list index record)

/-- RECIPE_CLOSE (R39). -/
def execRecipeClose (tag : Byte) (s : State) : Out := s.host tag .recipeClose

/-- RECIPE_CANCEL (R40). -/
def execRecipeCancel (tag : Byte) (s : State) : Out := s.host tag .recipeCancel

/-- RECIPE_DROP (R42). -/
def execRecipeDrop (tag slot : Byte) (s : State) : Out := s.host tag (.recipeDrop slot)

/-- RECIPE_DROP_OWNER (R43). -/
def execRecipeDropOwner (tag owner : Byte) (s : State) : Out := s.host tag (.recipeDropOwner owner)

/-- READ_RECIPE (R44). -/
def execReadRecipe (tag slot list index : Byte) (s : State) : Out := s.host tag (.readRecipe slot list index)

/-- LOAD_TUNING (R67). -/
def execLoadTuning (tag bank : Byte) (e1 e2 e3 e4 e5 : TuningFields) (s : State) : Out :=
  s.host tag (.loadTuning bank e1 e2 e3 e4 e5)

/-- QUERY_ZONES (R69). -/
def execQueryZones (tag tube : Byte) (s : State) : Out := s.host tag (.queryZones tube)

/-- SET_BUDGET (R73). -/
def execSetBudget (tag : Byte) (budget : Half) (s : State) : Out := s.host tag (.setBudget budget)

/-- QUERY_POWER (R83). -/
def execQueryPower (tag : Byte) (s : State) : Out := s.host tag .queryPower

/-- QUERY_GAS (R99). -/
def execQueryGas (tag : Byte) (s : State) : Out := s.host tag .queryGas

/-- QUERY_ATMOSPHERE (R119). -/
def execQueryAtmosphere (tag tube : Byte) (s : State) : Out := s.host tag (.queryAtmosphere tube)

/-- SET_SPEED_TABLE (R129). -/
def execSetSpeedTable (tag tube : Byte) (entries : List (Half × Half)) (s : State) : Out :=
  s.host tag (.setSpeedTable tube entries)

/-- BOAT_JOG (R136). -/
def execBoatJog (tag tube : Byte) (target speed : Half) (s : State) : Out := s.host tag (.boatJog tube target speed)

/-- QUERY_BOAT (R137). -/
def execQueryBoat (tag tube : Byte) (s : State) : Out := s.host tag (.queryBoat tube)

/-- SET_FAULT_POLICY (R140). -/
def execSetFaultPolicy (tag kind enable level action : Byte) (s : State) : Out :=
  s.host tag (.setFaultPolicy kind enable level action)

/-- CLEAR_FAULTS (R145). -/
def execClearFaults (tag tube : Byte) (kinds : List Byte) (s : State) : Out := s.host tag (.clearFaults tube kinds)

/-- READ_LOG (R152). -/
def execReadLog (tag : Byte) (start : Quad) (s : State) : Out := s.host tag (.readLog start)

/-- QUERY_FAULTS (R154). -/
def execQueryFaults (tag tube : Byte) (s : State) : Out := s.host tag (.queryFaults tube)

end Sys2Proof.Machine
end

