-- ==== Sys2Proof/Machine/Plant.lean ====
section
/-! DEFINITION. The commands of the plant: resets, timers, arrivals, edges of the input lines, and the events that a
timer or a report brings about. The rows of the last kind judge their condition again and act where it holds (log
entry 3). -/

namespace Sys2Proof.Machine

/-! ### Reset and time base (R176, R177) -/

/-- POWER_ON: the part is held in reset (R177). -/
def execPowerOn (s : State) : Out := .next (State.resetAt s.lines true s.pending)

/-- RESET_N asserted: the part is held in reset (R177). -/
def execResetN (s : State) : Out := .next (State.resetAt s.lines true s.pending)

/-- RESET_RELEASE: the reset ends, the rate strap is read; a part that is not held in reset stays as it is (R156,
R177). -/
def execResetRelease (rateStrap : Bool) (s : State) : Out :=
  .next (if s.inReset then State.resetAt { s.lines with rateStrap := rateStrap } false s.pending else s)

/-- UPTIME_TICK (R176). -/
def execUptimeTick (s : State) : Out :=
  s.act fun s => { s with time := { s.time with uptime := s.time.uptime + 1 } }

/-! ### Run controller (R13, R16) -/

/-- STEP_TIMER_TICK (R13). -/
def execStepTimerTick (t : Tube) (s : State) : Out := s.act fun s => s.event (stepTimerTick t)

/-- STEP_TIME_ELAPSED (R13). -/
def execStepTimeElapsed (t : Tube) (s : State) : Out := s.act fun s => s.eventOf [.stepElapsed t]

/-- STEP_TIMEOUT (R16). -/
def execStepTimeout (t : Tube) (s : State) : Out := s.act fun s => s.eventOf [.stepTimeout t]

/-! ### Thermal block and allocator (R48, R60, R78, R74) -/

/-- The arrival of a sample: written for an active zone in every run state, judged outside OFFLINE (R46, R48). -/
def State.sampleArrival (s : State) (t : Tube) (z : Zone) (tc : Thermocouple) (v : Reading) : State :=
  if z.number ≤ (s.tubeConfig t).activeZones then
    (s.writeSample t z tc (readingSample v)).eventOf
      (if (s.thermal.get t).runState = .offline then [] else [.judgeSamples t z])
  else s

/-- SAMPLE_ARRIVAL (R48). -/
def execSampleArrival (t : Tube) (z : Zone) (tc : Thermocouple) (v : Reading) (s : State) : Out :=
  s.act fun s => s.sampleArrival t z tc v

/-- THERMAL_TICK (R60). -/
def execThermalTick (t : Tube) (s : State) : Out := s.act fun s => s.event (thermalTickStart t)

/-- RAMP_STALLED (R59). -/
def execRampStalled (t : Tube) (s : State) : Out := s.act fun s => s.eventOf [.rampStalled t]

/-- ALLOCATION_PASS (R78, R82). Every zone is settled first; the zones that reach the starve limit then report
POWER_STARVED in the order of the positions 1 to 20 (log entry 41). -/
def execAllocationPass (s : State) : Out :=
  s.act fun s => s.allocate.eventOf (bankPositions.map fun p => .powerStarved p.1 p.2)

/-- POWER_STARVED (R82). -/
def execPowerStarved (t : Tube) (z : Zone) (s : State) : Out := s.act fun s => s.eventOf [.powerStarved t z]

/-- LOAD_SHED_EDGE (R74); while the part is held in reset only the line follows. -/
def execLoadShedEdge (rising : Bool) (s : State) : Out :=
  .next (if s.inReset then { s with lines := { s.lines with loadShed := rising } } else s.event (shedEdge rising))

/-! ### Gas and atmosphere (R87, R92, R95, R97, R98, R107 to R115) -/

/-- FLOW_READBACK (R87). -/
def execFlowReadback (t : Tube) (l : GasLine) (v : Nat) (s : State) : Out :=
  s.act fun s => s.event (flowReadback t l (s.gas.writeReadback t l v))

/-- GAS_TICK (R97, R107). -/
def execGasTick (t : Tube) (s : State) : Out := s.act fun s => s.event (gasTickStart t)

/-- ADMITTED: an examination of the gas wait queue (R92). -/
def execAdmitted (s : State) : Out := s.act fun s => s.eventOf [.examine]

/-- HEADER_WAIT_TIMEOUT (R95). -/
def execHeaderWaitTimeout (t : Tube) (s : State) : Out := s.act fun s => s.eventOf [.headerWait t]

/-- FLOW_DEVIATION (R98). -/
def execFlowDeviation (t : Tube) (l : GasLine) (s : State) : Out := s.act fun s => s.eventOf [.flowDeviation t l]

/-- PURGE_COMPLETE (R109). -/
def execPurgeComplete (t : Tube) (s : State) : Out := s.act fun s => s.eventOf [.purgeComplete t]

/-- PURGE_INCOMPLETE (R109). -/
def execPurgeIncomplete (t : Tube) (s : State) : Out := s.act fun s => s.eventOf [.purgeIncomplete t]

/-- IGNITION_CHANGE (R110). -/
def execIgnitionChange (t : Tube) (s : State) : Out := s.act fun s => s.eventOf [.ignitionTest t]

/-- The level of a flame-sense line among the input lines. -/
def State.setFlameLine (s : State) (t : Tube) (high : Bool) : State :=
  { s with lines := { s.lines with flame := s.lines.flame.set t high } }

/-- FLAME_SENSE_RISE (R111). -/
def execFlameSenseRise (t : Tube) (s : State) : Out :=
  .next (if s.inReset then s.setFlameLine t true else s.event (flameRise t))

/-- FLAME_SENSE_FALL (R114). -/
def execFlameSenseFall (t : Tube) (s : State) : Out :=
  .next (if s.inReset then s.setFlameLine t false else s.event (flameFall t))

/-- IGNITION_FAILED (R113). -/
def execIgnitionFailed (t : Tube) (s : State) : Out := s.act fun s => s.eventOf [.ignitionFailed t]

/-- POST_FLOW_END (R115). -/
def execPostFlowEnd (t : Tube) (s : State) : Out := s.act fun s => s.eventOf [.postFlowEnd t]

/-! ### Boat (R122, R123, R125, R127, R130, R132) -/

/-- POSITION_ARRIVAL (R123). -/
def execPositionArrival (t : Tube) (v : Nat) (s : State) : Out := s.act fun s => s.event (positionArrival t v)

/-- MOTION_TICK (R127). -/
def execMotionTick (t : Tube) (s : State) : Out := s.act fun s => s.event (motionTick t)

/-- MOVE_START (R125). -/
def execMoveStart (t : Tube) (s : State) : Out := s.act fun s => s.eventOf [.moveStart t]

/-- OPEN_LIMIT_EDGE (R122). -/
def execOpenLimitEdge (t : Tube) (rising : Bool) (s : State) : Out :=
  .next (if s.inReset then { s with lines := { s.lines with openLimit := s.lines.openLimit.set t rising } }
         else s.event (openLimitEdge t rising))

/-- CLOSED_LIMIT_EDGE (R122). -/
def execClosedLimitEdge (t : Tube) (rising : Bool) (s : State) : Out :=
  .next (if s.inReset then { s with lines := { s.lines with closedLimit := s.lines.closedLimit.set t rising } }
         else s.event (closedLimitEdge t rising))

/-- SETTLE_TIMEOUT (R130). -/
def execSettleTimeout (t : Tube) (s : State) : Out := s.act fun s => s.eventOf [.settleTimeout t]

/-- SHUTTER_TIMEOUT (R132). -/
def execShutterTimeout (t : Tube) (s : State) : Out := s.act fun s => s.eventOf [.shutterTimeout t]

/-! ### Fault block (R149, R151) -/

/-- BANK_LINE_EDGE (R149). -/
def execBankLineEdge (l : BankLine) (rising : Bool) (s : State) : Out :=
  .next (if s.inReset then { s with lines := s.lines.setBank l rising } else s.event (bankLineEdge l rising))

/-- The message by which the fault block receives a report: the kinds of the bank lines and SHED_ACTIVE concern every tube
(R150), the others the tube named. -/
def wrapTask (r : Config.Report) : Task :=
  match r.kind with
  | .h2Detected => .bankDetect .hydrogen
  | .interlockOpen => .bankDetect .interlock
  | .exhaustLost => .bankDetect .exhaust
  | .shedActive => .shedDetect (or0 r.measured) (or0 r.limit)
  | k => .detect { tube := r.tube, kind := k, place := r.place, measured := r.measured, limit := r.limit,
                   listStep := none }

/-- Count one free value of LOG_SEQUENCE_WRAP as taken (log entry 36). -/
def Faults.tookReport (f : Faults) : Faults := { f with wraps := f.wraps + 1 }

/-- LOG_SEQUENCE_WRAP: the detection whose record would take the sequence 4 294 967 295, a free value. Its writing empties
the log, and the record takes the sequence 0 (`Faults.write`, R151). While the numbering stands below its maximum the
event cannot happen, and nothing changes (log entries 3 and 36). -/
def execLogSequenceWrap (s : State) : Out :=
  s.act fun s =>
    if s.faults.nextSeq = 4294967295 then
      (s.setFaults s.faults.tookReport).eventOf [wrapTask (Config.wrapReport s.faults.wraps)]
    else s

end Sys2Proof.Machine
end

