-- ==== Sys2Proof/Machine/Dispatch.lean ====
section
/-! DEFINITION. The meaning of every command: one arm per constructor of `Instr`, each one direct call. -/

namespace Sys2Proof.Machine

/-- The effect of a command on the block (everything but the queue of waiting commands). -/
def exec (i : Instr) (s : State) : Host.Outcome State Fault Refusal :=
  match i with
  | .rxByte b => Sys2Proof.Machine.execRxByte b s
  | .rxFramingError => Sys2Proof.Machine.execRxFramingError s
  | .silenceTimeout => Sys2Proof.Machine.execSilenceTimeout s
  | .takeRequest => Sys2Proof.Machine.execTakeRequest s
  | .transmitComplete => Sys2Proof.Machine.execTransmitComplete s
  | .identify tag => Sys2Proof.Machine.execIdentify tag s
  | .setNotices tag stepEntered runEnded faultActed tubeState => Sys2Proof.Machine.execSetNotices tag stepEntered runEnded faultActed tubeState s
  | .configureTube tag tube fitted activeZones f => Sys2Proof.Machine.execConfigureTube tag tube fitted activeZones f s
  | .configureBank tag n2 o2 h2 aux shedBudget waitTimeout => Sys2Proof.Machine.execConfigureBank tag n2 o2 h2 aux shedBudget waitTimeout s
  | .commission tag => Sys2Proof.Machine.execCommission tag s
  | .setClock tag offset => Sys2Proof.Machine.execSetClock tag offset s
  | .restart tag => Sys2Proof.Machine.execRestart tag s
  | .run tag tube slot => Sys2Proof.Machine.execRun tag tube slot s
  | .hold tag tube => Sys2Proof.Machine.execHold tag tube s
  | .resume tag tube => Sys2Proof.Machine.execResume tag tube s
  | .skipStep tag tube => Sys2Proof.Machine.execSkipStep tag tube s
  | .abort tag tube => Sys2Proof.Machine.execAbort tag tube s
  | .safeStop tag tube => Sys2Proof.Machine.execSafeStop tag tube s
  | .recover tag tube => Sys2Proof.Machine.execRecover tag tube s
  | .queryTube tag tube => Sys2Proof.Machine.execQueryTube tag tube s
  | .recipeOpen tag slot name owner resident zoneCount mainCount tailCount => Sys2Proof.Machine.execRecipeOpen tag slot name owner resident zoneCount mainCount tailCount s
  | .recipeStep tag list index record => Sys2Proof.Machine.execRecipeStep tag list index record s
  | .recipeClose tag => Sys2Proof.Machine.execRecipeClose tag s
  | .recipeCancel tag => Sys2Proof.Machine.execRecipeCancel tag s
  | .recipeDrop tag slot => Sys2Proof.Machine.execRecipeDrop tag slot s
  | .recipeDropOwner tag owner => Sys2Proof.Machine.execRecipeDropOwner tag owner s
  | .readRecipe tag slot list index => Sys2Proof.Machine.execReadRecipe tag slot list index s
  | .loadTuning tag bank e1 e2 e3 e4 e5 => Sys2Proof.Machine.execLoadTuning tag bank e1 e2 e3 e4 e5 s
  | .queryZones tag tube => Sys2Proof.Machine.execQueryZones tag tube s
  | .setBudget tag budget => Sys2Proof.Machine.execSetBudget tag budget s
  | .queryPower tag => Sys2Proof.Machine.execQueryPower tag s
  | .queryGas tag => Sys2Proof.Machine.execQueryGas tag s
  | .queryAtmosphere tag tube => Sys2Proof.Machine.execQueryAtmosphere tag tube s
  | .setSpeedTable tag tube entries => Sys2Proof.Machine.execSetSpeedTable tag tube entries s
  | .boatJog tag tube target speed => Sys2Proof.Machine.execBoatJog tag tube target speed s
  | .queryBoat tag tube => Sys2Proof.Machine.execQueryBoat tag tube s
  | .setFaultPolicy tag kind enable level action => Sys2Proof.Machine.execSetFaultPolicy tag kind enable level action s
  | .clearFaults tag tube kinds => Sys2Proof.Machine.execClearFaults tag tube kinds s
  | .readLog tag start => Sys2Proof.Machine.execReadLog tag start s
  | .queryFaults tag tube => Sys2Proof.Machine.execQueryFaults tag tube s
  | .powerOn => Sys2Proof.Machine.execPowerOn s
  | .resetN => Sys2Proof.Machine.execResetN s
  | .resetRelease rateStrap => Sys2Proof.Machine.execResetRelease rateStrap s
  | .uptimeTick => Sys2Proof.Machine.execUptimeTick s
  | .stepTimerTick tube => Sys2Proof.Machine.execStepTimerTick tube s
  | .stepTimeElapsed tube => Sys2Proof.Machine.execStepTimeElapsed tube s
  | .stepTimeout tube => Sys2Proof.Machine.execStepTimeout tube s
  | .sampleArrival tube zone tc value => Sys2Proof.Machine.execSampleArrival tube zone tc value s
  | .thermalTick tube => Sys2Proof.Machine.execThermalTick tube s
  | .rampStalled tube => Sys2Proof.Machine.execRampStalled tube s
  | .allocationPass => Sys2Proof.Machine.execAllocationPass s
  | .powerStarved tube zone => Sys2Proof.Machine.execPowerStarved tube zone s
  | .loadShedEdge rising => Sys2Proof.Machine.execLoadShedEdge rising s
  | .flowReadback tube line value => Sys2Proof.Machine.execFlowReadback tube line value s
  | .gasTick tube => Sys2Proof.Machine.execGasTick tube s
  | .admitted => Sys2Proof.Machine.execAdmitted s
  | .headerWaitTimeout tube => Sys2Proof.Machine.execHeaderWaitTimeout tube s
  | .flowDeviation tube line => Sys2Proof.Machine.execFlowDeviation tube line s
  | .purgeComplete tube => Sys2Proof.Machine.execPurgeComplete tube s
  | .purgeIncomplete tube => Sys2Proof.Machine.execPurgeIncomplete tube s
  | .ignitionChange tube => Sys2Proof.Machine.execIgnitionChange tube s
  | .flameSenseRise tube => Sys2Proof.Machine.execFlameSenseRise tube s
  | .flameSenseFall tube => Sys2Proof.Machine.execFlameSenseFall tube s
  | .ignitionFailed tube => Sys2Proof.Machine.execIgnitionFailed tube s
  | .postFlowEnd tube => Sys2Proof.Machine.execPostFlowEnd tube s
  | .positionArrival tube position => Sys2Proof.Machine.execPositionArrival tube position s
  | .motionTick tube => Sys2Proof.Machine.execMotionTick tube s
  | .moveStart tube => Sys2Proof.Machine.execMoveStart tube s
  | .openLimitEdge tube rising => Sys2Proof.Machine.execOpenLimitEdge tube rising s
  | .closedLimitEdge tube rising => Sys2Proof.Machine.execClosedLimitEdge tube rising s
  | .settleTimeout tube => Sys2Proof.Machine.execSettleTimeout tube s
  | .shutterTimeout tube => Sys2Proof.Machine.execShutterTimeout tube s
  | .bankLineEdge line rising => Sys2Proof.Machine.execBankLineEdge line rising s
  | .logSequenceWrap => Sys2Proof.Machine.execLogSequenceWrap s

end Sys2Proof.Machine
end

