-- ==== Sys2Proof/WellFormed.lean ====
section
/-! DEFINITION. Which commands are well formed: a request command must be one that a frame can carry and that decodes
to itself (R156, R166). The commands of the plant are all well formed. -/

namespace Sys2Proof

/-- A payload holds 0 to 248 bytes (R156). -/
def payloadFits (r : Request) : Bool := (Machine.requestPayload r).length ≤ 248

/-- The list of CLEAR_FAULTS holds 0 to 19 codes (R145, R166). -/
def clearListFits : Request → Bool
  | .clearFaults _ kinds => kinds.length ≤ 19
  | _ => true

/-- Whether a request can be carried and decodes to itself. -/
def requestWellFormed (r : Request) : Bool := payloadFits r && clearListFits r

/-- Whether a command is well formed. -/
def wellFormed (i : Instr) : Bool :=
  match Machine.instrRequest i with
  | some p => requestWellFormed p.2
  | none => true

end Sys2Proof
end

