-- ==== Sys2Proof/Safety.lean ====
section
/-! DEFINITION. What counts as a sound state of the bank, and the words in which the statements say what a command
leaves: a request taken at once, its reply placed, the event that follows a detection, and the invariants. -/

namespace Sys2Proof.Machine

/-! ### Requests taken at once (R159, R160) -/

/-- The part is out of reset, no request waits, and the link may take the next one: a good frame that completes now is
taken in the same event (R160). -/
def State.canTake (s : State) : Bool := !s.inReset && s.link.requests.isEmpty && s.link.ready

/-- The state with the reply to a request of the tag given placed at the back of the reply queue, after which the
arbiter decides (R160, R161). The OK of a RESTART carries its mark (R177). -/
def State.replied (s : State) (r : Request) (tag : Byte) (a : Answer) : State :=
  let reply := a.reply (requestKind r) tag
  s.setLink (s.link.placeReply { reply with restarts := reply.kind = 0x94 })

/-- The state after the messages `tasks` of one event, the event having spent one message before them (the chain's
bound is `Config.cascadeBound`, log entry 4). -/
def State.after (s : State) (tasks : List Task) : State :=
  (runTasks (Config.cascadeBound - 1) tasks (Ctx.start s false)).s

/-- A detection of a kind in a tube with the values its report carries. -/
def detection (t : Tube) (k : FaultKind) (place measured limit : Option Nat) : Detection :=
  { tube := t, kind := k, place := place, measured := measured, limit := limit, listStep := none }

/-- The tube's own list and step, as STEP_TIMEOUT reports them (R16). -/
def State.stepDetection (s : State) (t : Tube) : Detection :=
  { detection t .stepTimeout none none none with listStep := some ((s.run.get t).list, (s.run.get t).step) }

/-! ### Frames: what a command leaves alone -/

/-- Everything but the link controller is unchanged. -/
def State.sameButLink (s n : State) : Prop := n = { s with link := n.link }

/-- The other tubes' run records, thermal blocks, atmosphere and boat records are unchanged. -/
def State.sameTubesBut (s n : State) (t : Tube) : Prop :=
  ∀ u, u ≠ t → n.run.get u = s.run.get u ∧ n.thermal.get u = s.thermal.get u ∧ n.atm.get u = s.atm.get u ∧
    n.boat.get u = s.boat.get u

/-- What no event of the plant writes: tuning banks, configuration, time base, the queue of commands, the reset. -/
def State.sameSettings (s n : State) : Prop :=
  n.banks = s.banks ∧ n.config = s.config ∧ n.time = s.time ∧ n.pending = s.pending ∧ n.inReset = s.inReset

/-! ### Invariants -/

/-- The five fixed kinds carry their default policy (R139, R140). -/
def State.fixedPolicyKept (s : State) : Prop :=
  ∀ k : FaultKind, k.fixed = true → s.faults.policyOf k = defaultPolicy[k.index]

/-- The assembler has kept fewer bytes than the length while it collects them, all of them when it waits for the check
byte, and none while it hunts or waits for the length (R157). -/
def Link.asmSound (l : Link) : Prop :=
  match l.asm with
  | .hunting | .length => l.asmLength = 0 ∧ l.asmBytes = []
  | .body => 2 ≤ l.asmLength ∧ l.asmLength ≤ 250 ∧ l.asmBytes.length < l.asmLength
  | .check => 2 ≤ l.asmLength ∧ l.asmLength ≤ 250 ∧ l.asmBytes.length = l.asmLength

/-- The link's queues keep their bounds: 4 requests, 8 link replies, one request reply that has not begun, 32 notices
(R159, R160, R162). -/
def Link.bounded (l : Link) : Prop :=
  l.requests.length ≤ 4 ∧ l.linkRepliesWaiting ≤ 8 ∧ (l.replies.filter fun r => r.fromRequest).length ≤ 1 ∧
    l.notices.length ≤ 32

/-- The transmitter is idle only while nothing waits to be sent, and a request waits only while it may not be taken
(R160, R161). -/
def Link.served (l : Link) : Prop :=
  (l.tx = none → l.replies = [] ∧ l.notices = []) ∧ (l.requests ≠ [] → l.ready = false)

/-- The link controller is sound. -/
def State.linkSound (s : State) : Prop := s.link.asmSound ∧ s.link.bounded ∧ s.link.served

/-- The fault log holds at most 64 records, their sequence numbers are consecutive and end just below the next one
(R151). -/
def Faults.logSound (f : Faults) : Prop :=
  f.log.length ≤ 64 ∧ f.log.length ≤ f.nextSeq ∧ f.nextSeq ≤ 4294967295 ∧
    f.log.map LogRec.seq = List.range' (f.nextSeq - f.log.length) f.log.length

/-- The granted sum of every header lies within its limit (R88, R91). -/
def State.headersKept (s : State) : Prop :=
  ∀ l : GasLine, s.gas.grantedSum l (fun _ => true) ≤ 1000 * s.config.bank.headers.get l

/-- How many tubes run the recipe of a slot. -/
def State.users (s : State) (i : Fin 16) : Nat :=
  (Tube.list.filter fun t => (s.run.get t).recipe = some i).length

/-- One slot's account: an EMPTY slot has no user; a slot in LOADING has none, keeps in-use count 0 and is the one of
the load context; a CLOSED slot's in-use count is the number of its users (R30, R41). -/
def State.slotSound (s : State) (i : Fin 16) : Prop :=
  match s.store.recipe? i with
  | none => s.users i = 0
  | some r =>
    r.inUse = s.users i ∧
      (r.closed = false → s.users i = 0 ∧ (s.store.load.map fun c => c.slot) = some i)

/-- The recipe store is sound: each slot's account holds, the load context names a slot in LOADING, and the pool's
reserved records are those of the recipes held, at most 384 (R31, R33, R41). -/
def State.storeSound (s : State) : Prop :=
  (∀ i, s.slotSound i) ∧
    (∀ c, s.store.load = some c → ∃ r, s.store.recipe? c.slot = some r ∧ r.closed = false) ∧
    s.store.reserved = ((List.finRange 16).map fun i => ((s.store.recipe? i).map Recipe.records).getD 0).sum ∧
    s.store.reserved ≤ 384

/-- A tube refers to a recipe exactly while it is RUNNING, HOLDING or ABORTING (R1), and every tube is OFFLINE until
COMMISSION has locked the configuration (R5, R175). -/
def State.runsSound (s : State) : Prop :=
  (∀ t, (s.run.get t).recipe.isSome = (s.runState t).hasRun) ∧
    (s.config.locked = false → ∀ t, s.runState t = .offline)

/-- The torch of one tube is sound: hydrogen is commanded only in IGNITE and LIT, the igniter is on only in IGNITE, and
what makes these hold over every step: the flows in force are the arbiter's commands, the grants are the commands
except in the safety flow, an entry waits exactly while a phase is awaited, and a waiting change that carries hydrogen
leads to IGNITE or LIT (chapter 6). -/
def State.torchSound (s : State) (t : Tube) : Prop :=
  let a := s.atm.get t
  let g := s.gas
  (0 < (g.commands t).h2 → a.state = .ignite ∨ a.state = .lit) ∧
    (a.igniter = true ↔ a.state = .ignite) ∧
    a.targetClass = classOf a.target ∧
    a.inForce = g.commands t ∧
    (if g.safety.get t = true then
      g.granted.get t = PerLine.all 0 ∧ (g.commands t).h2 = 0 ∧ (a.state = .safeFlow ∨ a.state = .waitHeader)
     else g.granted.get t = g.commands t) ∧
    (g.entry? t).isSome = a.awaited.isSome ∧
    (a.awaited.isSome = true → a.state = .preflow ∨ a.state = .lit ∨ a.state = .waitHeader) ∧
    (∀ e ∈ g.queue, e.tube = t → 0 < e.flows.h2 → a.awaited = some .ignite ∨ a.awaited = some .lit)

/-- The torches of the bank are sound, and each tube has at most one entry in the gas wait queue (R90). -/
def State.torchesSound (s : State) : Prop :=
  (∀ t, s.torchSound t) ∧ (s.gas.queue.map GasEntry.tube).Nodup

/-- The hydrogen of one tube is bounded: its H2 command lies within the ratio limit of its O2 command, and in IGNITE
within the ignition flow; and what makes this hold over every step: the target flows and the flows of a waiting change
keep the ratio limit, and a waiting ignition change keeps the ignition flow (R103, R110). -/
def State.hydrogenBounded (s : State) (t : Tube) : Prop :=
  let a := s.atm.get t
  let cfg := s.tubeConfig t
  let now := s.gas.commands t
  now.h2 ≤ cfg.ratio * now.o2 / 100 ∧ (a.state = .ignite → now.h2 ≤ cfg.ignitionH2) ∧
    a.target.h2 ≤ cfg.ratio * a.target.o2 / 100 ∧
    ∀ e ∈ s.gas.queue, e.tube = t → e.flows.h2 ≤ cfg.ratio * e.flows.o2 / 100 ∧
      (a.awaited = some .ignite → e.flows.h2 ≤ cfg.ignitionH2)

/-- Until COMMISSION every tube is OFFLINE and STABLE without hydrogen, and no change waits, so that the configuration
may still change (R5, R86, R172). -/
def State.quietUntilCommissioned (s : State) : Prop :=
  s.config.locked = false → s.gas.queue = [] ∧ ∀ t, s.runState t = .offline ∧ (s.atm.get t).state = .stable ∧
    (s.gas.commands t).h2 = 0 ∧ (s.atm.get t).target.h2 = 0

/-- The hydrogen of the bank is bounded. -/
def State.ratiosKept (s : State) : Prop := (∀ t, s.hydrogenBounded t) ∧ s.quietUntilCommissioned

/-- The first-fault pointer of a tube is empty or names a kind for which the tube holds a status entry (R146). -/
def State.pointersSound (s : State) : Prop :=
  ∀ t k, s.faults.pointer.get t = some k → (s.faults.entry? t k).isSome = true

/-- Every ramp is sound: its setpoint lies between its origin and its target, it is complete exactly when the setpoint
stands at the target, and the remainder lies below 60 (R46, R52). -/
def ZoneRec.rampSound (z : ZoneRec) : Prop :=
  (z.complete = true ↔ z.setpoint = z.target) ∧ z.remainder < 60 ∧
    (z.origin ≤ z.setpoint ∧ z.setpoint ≤ z.target ∨ z.target ≤ z.setpoint ∧ z.setpoint ≤ z.origin)

/-- The ramps of the bank are sound. -/
def State.rampsSound (s : State) : Prop := ∀ t z, ((s.thermal.get t).zones.get z).rampSound

/-- The heaters are sound: the thermal block holds the tube's run state, tubes are OFFLINE until COMMISSION, each firing
lies within its demand and each demand within the output limit in use, and the demand is 0 while the tube is OFFLINE or
inhibited and for a zone above the active zones (R63, R68, R80, R81). -/
def State.heatersSound (s : State) : Prop :=
  (∀ t, (s.thermal.get t).runState = s.runState t) ∧
    (s.config.locked = false → ∀ t, s.runState t = .offline) ∧
    ∀ t z, (s.alloc.zone t z).firing ≤ ((s.thermal.get t).zones.get z).demand ∧
      ((s.thermal.get t).zones.get z).demand ≤ (s.tuning t z).lmax ∧
      (s.runState t = .offline ∨ (s.thermal.get t).inhibit ≠ .clear ∨ (s.tubeConfig t).activeZones < z.number →
        ((s.thermal.get t).zones.get z).demand = 0)

/-- The power the latest pass granted to all zones together, in watts. -/
def Alloc.grantedTotal (a : Alloc) : Nat := (bankPositions.map fun p => (a.zone p.1 p.2).grant).sum

/-- The grants of the zones of one class, in watts. -/
def Alloc.grantedTo (a : Alloc) (k : PowerClass) : Nat := a.classSum k fun z => z.grant

end Sys2Proof.Machine
end

