-- ==== Sys2Proof/Certificates/Slice0/Obligations.lean ====
section
/-! DEFINITION. The statements for the provers. Each says which rules of spec/ it formalises; OBLIGATIONS.json lists them
in this order. -/

open Sys2Proof Sys2Proof.Machine

/-- A step runs the command at the front of the queue, on the rest of the queue (R160, 00_scope.md, Events). -/
def Obligations.StepRunsFrontCommand : Prop :=
  ∀ (c : Instr) (rest : List Instr) (s : State),
    step { s with pending := c :: rest } = exec c { s with pending := rest }

/-- A request whose frame completes while the link can take it is served at once and answered once (R159, R160, R166,
R167). -/
def Obligations.RequestRowIsServed : Prop :=
  ∀ (i : Instr) (tag : Byte) (r : Request) (s : State),
    instrRequest i = some (tag, r) → wellFormed i = true → s.canTake = true →
    exec i s = .next ((s.serve r).1.replied r tag (s.serve r).2)

/-- A request that completes while a request reply waits is queued, or answered with BUSY at four (R159, R160). -/
def Obligations.RequestRowWaitsWhileReplyWaits : Prop :=
  ∀ (i : Instr) (tag : Byte) (r : Request) (s : State),
    instrRequest i = some (tag, r) → s.inReset = false → s.link.requestReplyWaits = true → s.link.tx.isSome = true →
    exec i s = .next (if s.link.requests.length < 4
      then s.setLink { s.link with requests := s.link.requests ++ [requestFrame r tag] }
      else s.setLink (s.link.placeLinkReply (busyReply (requestKind r) tag)))

/-- Every request that a frame can carry decodes from its own kind and payload (R166, R167, R169). -/
def Obligations.RequestDecodesFromItsPayload : Prop :=
  ∀ r : Request, requestWellFormed r = true → decodeRequest (requestKind r) (requestPayload r) = .request r

/-- A good frame received byte by byte does exactly what its completion does (R156, R157, R158, R159). -/
def Obligations.FrameBytesReachTheRequestQueue : Prop :=
  ∀ (r : Request) (tag : Byte) (s : State),
    payloadFits r = true → s.link.asm = .hunting → s.link.asmLength = 0 → s.link.asmBytes = [] →
    (frameBytes (requestKind r) tag (requestPayload r)).foldl (fun s b => s.receive b) s =
      s.completeGood (requestFrame r tag)

/-- RX_BYTE drives the receive assembler; a framing error and a silence discard the partial frame (R157). -/
def Obligations.RxByteAssembles : Prop :=
  ∀ (b : Byte) (s : State), s.inReset = false →
    (s.link.asm = .hunting → exec (.rxByte b) s =
      .next (if b = 0xC3 then s.setLink { s.link with asm := .length } else s)) ∧
    (s.link.asm = .length → exec (.rxByte b) s =
      .next (if 2 ≤ b.toNat ∧ b.toNat ≤ 250
        then s.setLink { s.link with asm := .body, asmLength := b.toNat, asmBytes := [] }
        else s.setLink { s.link with asm := .hunting, asmLength := 0, asmBytes := [] })) ∧
    (s.link.asm = .body → exec (.rxByte b) s =
      .next (s.setLink { s.link with
        asmBytes := s.link.asmBytes ++ [b]
        asm := if s.link.asmBytes.length + 1 < s.link.asmLength then .body else .check })) ∧
    exec .rxFramingError s = .next (s.setLink { s.link with asm := .hunting, asmLength := 0, asmBytes := [] }) ∧
    exec .silenceTimeout s = .next (s.setLink { s.link with asm := .hunting, asmLength := 0, asmBytes := [] })

/-- A frame whose check byte is wrong is answered with REJECT and not queued (R157, R158, R159). -/
def Obligations.BadCheckIsRejected : Prop :=
  ∀ (b kind tag : Byte) (payload : List Byte) (s : State),
    s.inReset = false → s.link.asm = .check → s.link.asmBytes = kind :: tag :: payload →
    b ≠ crc8 (BitVec.ofNat 8 s.link.asmLength :: kind :: tag :: payload) →
    let hunting : Link := { s.link with asm := .hunting, asmLength := 0, asmBytes := [] }
    let reject : Reply :=
      { fromRequest := false, kind := 0xFC, tag := tag, payloads := [[0x01, kind]], restarts := false }
    exec (.rxByte b) s = .next (s.setLink (hunting.placeLinkReply reject)) ∧
    (s.link.linkRepliesWaiting < 8 → s.link.tx = none → s.link.replies = [] →
      hunting.placeLinkReply reject = { hunting with tx := some (.reply reject) }) ∧
    (s.link.linkRepliesWaiting < 8 → s.link.tx.isSome = true →
      hunting.placeLinkReply reject = { hunting with replies := s.link.replies ++ [reject] }) ∧
    (8 ≤ s.link.linkRepliesWaiting → hunting.placeLinkReply reject = hunting)

/-- TAKE_REQUEST takes the frame at the head, and takes nothing while a request reply waits (R160). -/
def Obligations.TakeRequestTakesTheHead : Prop :=
  ∀ s : State, s.inReset = false →
    ((s.link.requests = [] ∨ s.link.requestReplyWaits = true) → exec .takeRequest s = .next s) ∧
    (∀ f, s.link.requests = [f] → s.link.ready = true →
      let base := s.setLink { s.link with requests := [] }
      (decodeRequest f.kind f.payload = .badKind → exec .takeRequest s = .next (base.setLink (base.link.placeReply
        { fromRequest := true, kind := 0xFE, tag := f.tag, payloads := [[f.kind, 0x01, 0]], restarts := false }))) ∧
      (decodeRequest f.kind f.payload = .badLength → exec .takeRequest s = .next (base.setLink (base.link.placeReply
        { fromRequest := true, kind := 0xFE, tag := f.tag, payloads := [[f.kind, 0x02, 0]], restarts := false }))) ∧
      (∀ r, decodeRequest f.kind f.payload = .request r → requestKind r = f.kind →
        exec .takeRequest s = .next ((base.serve r).1.replied r f.tag (base.serve r).2)))

/-- When the transmitter falls free, the reply at the head goes next, failing that a notice (idle transmitter: log
entry 2) (R160, R161, R177). -/
def Obligations.TransmitCompleteServesRepliesFirst : Prop :=
  ∀ s : State, s.inReset = false →
    (s.link.requests = [] → s.link.tx = none → exec .transmitComplete s = .next s) ∧
    (∀ o, s.link.tx = some o → (∀ r, o = .reply r → r.restarts = false) →
      (s.link.requests = [] →
        (∀ r rs, s.link.replies = r :: rs →
          exec .transmitComplete s = .next (s.setLink { s.link with tx := some (.reply r), replies := rs })) ∧
        (s.link.replies = [] → ∀ q qs, s.link.notices = q :: qs →
          exec .transmitComplete s = .next (s.setLink { s.link with tx := some (.notice q), notices := qs })) ∧
        (s.link.replies = [] → s.link.notices = [] →
          exec .transmitComplete s = .next (s.setLink { s.link with tx := none }))) ∧
      (∀ f r, s.link.requests = [f] → decodeRequest f.kind f.payload = .request r → requestKind r = f.kind →
        let freed := s.setLink (Link.arbitrate { s.link with tx := none, requests := [] })
        freed.link.ready = true →
        exec .transmitComplete s = .next ((freed.serve r).1.replied r f.tag (freed.serve r).2)))

/-- A notice handed to the link is discarded, queued with the LOST mark, or dropped (R162). -/
def Obligations.NoticeIsQueuedMarkedOrDropped : Prop :=
  ∀ (l : Link) (n : Notice),
    (l.enables.allows n = false → l.queueNotice n = l) ∧
    (l.enables.allows n = true → l.notices.length < 32 →
      l.queueNotice n = { l with notices := l.notices ++ [{ lost := l.lost, notice := n }], lost := false }) ∧
    (l.enables.allows n = true → l.notices.length = 32 → l.queueNotice n = { l with lost := true }) ∧
    (l.notices.length ≤ 32 → (l.queueNotice n).notices.length ≤ 32)

/-- Every step keeps the bounds of the link’s queues, the assembler’s count and the service rule (R157, R159, R160,
R161, R162). -/
def Obligations.LinkControllerStaysSound : Prop :=
  ∀ s n : State, s.linkSound → step s = .next n → n.linkSound

/-- The machine right after reset satisfies every invariant stated here (R1, R30, R31, R88, R102, R103, R139, R146,
R151, R156). -/
def Obligations.ResetIsSound : Prop :=
  State.reset.linkSound ∧ State.reset.fixedPolicyKept ∧ State.reset.faults.logSound ∧ State.reset.runsSound ∧
    State.reset.storeSound ∧ State.reset.torchesSound ∧ State.reset.headersKept ∧ State.reset.rampsSound ∧
    State.reset.heatersSound ∧ State.reset.ratiosKept ∧ State.reset.pointersSound

/-- POWER_ON and RESET_N hold the part in reset, RESET_RELEASE ends it and reads the strap (queue, second release: log
entries 23, 5) (R122, R156, R172, R176, R177). -/
def Obligations.ResetReturnsEveryBlock : Prop :=
  ∀ (s : State) (strap : Bool),
    let off (n : State) : Prop := ∀ t, n.gas.commands t = { n2 := 0, o2 := 0, h2 := 0, aux := 0 } ∧
      (∀ l, ((n.gas.lines.get t).get l).valve = decide (l = .n2)) ∧ (n.atm.get t).igniter = false ∧
      (n.boat.get t).speedCmd = 0 ∧ (n.boat.get t).openOutput = false ∧ (n.boat.get t).closeOutput = false ∧
      ∀ z, (n.alloc.zone t z).firing = 0
    exec .powerOn s = .next (State.resetAt s.lines true s.pending) ∧
    exec .resetN s = .next (State.resetAt s.lines true s.pending) ∧ off (State.resetAt s.lines true s.pending) ∧
    (s.inReset = true → ∃ n, exec (.resetRelease strap) s = .next n ∧
      n = State.resetAt { s.lines with rateStrap := strap } false s.pending ∧ n.inReset = false ∧
      n.link.fastRate = strap ∧ n.time = { uptime := 0, offset := 0 } ∧ n.config.locked = false ∧
      (∀ t, n.runState t = .offline ∧ (n.tubeConfig t).status = .unconfigured) ∧
      (∀ i, n.store.recipe? i = none) ∧ n.faults.log = [] ∧ n.pending = s.pending ∧ off n) ∧
    (s.inReset = false → exec (.resetRelease strap) s = .next s)

/-- UPTIME_TICK adds one second; SET_CLOCK writes the offset and answers both stamps (R176). -/
def Obligations.UptimeTickAndClock : Prop :=
  (∀ s : State, s.inReset = false →
      exec .uptimeTick s = .next { s with time := { s.time with uptime := s.time.uptime + 1 } }) ∧
    (∀ (s : State) (tag : Byte) (q : Quad), s.canTake = true →
      exec (.setClock tag q) s = .next (State.replied { s with time := { s.time with offset := q.toNat } } (.setClock q)
        tag (.one (u32 ((s.time.offset + s.time.uptime) % 4294967296) ++
          u32 ((q.toNat + s.time.uptime) % 4294967296)))))

/-- SET_NOTICES writes the four enables at once and leaves queue and lost flag (R163). -/
def Obligations.SetNoticesWritesTheEnables : Prop :=
  ∀ (s : State) (tag a b c d : Byte), s.canTake = true →
    (∀ x y z w : Bool, a = (if x then 1 else 0) → b = (if y then 1 else 0) → c = (if z then 1 else 0) →
      d = (if w then 1 else 0) →
      exec (.setNotices tag a b c d) s = .next (State.replied
        (s.setLink { s.link with enables := { stepEntered := x, runEnded := y, faultActed := z, tubeState := w } })
        (.setNotices a b c d) tag
        (.one ([a, b, c, d] ++ u8 s.link.notices.length ++ flag s.link.lost)))) ∧
    (1 < a.toNat → exec (.setNotices tag a b c d) s =
      .next (s.replied (.setNotices a b c d) tag (.no .badField 1))) ∧
    (a.toNat ≤ 1 → 1 < b.toNat → exec (.setNotices tag a b c d) s =
      .next (s.replied (.setNotices a b c d) tag (.no .badField 2))) ∧
    (a.toNat ≤ 1 → b.toNat ≤ 1 → 1 < c.toNat → exec (.setNotices tag a b c d) s =
      .next (s.replied (.setNotices a b c d) tag (.no .badField 3))) ∧
    (a.toNat ≤ 1 → b.toNat ≤ 1 → c.toNat ≤ 1 → 1 < d.toNat → exec (.setNotices tag a b c d) s =
      .next (s.replied (.setNotices a b c d) tag (.no .badField 4)))

/-- A query taken at once answers its content and changes nothing but the link (R29, R44, R69, R83, R99, R119, R137,
R152, R154, R164, R170). -/
def Obligations.QueriesChangeOnlyTheLink : Prop :=
  ∀ (s : State) (tag b : Byte) (t : Tube), s.canTake = true → tubeField b = some t →
    exec (.identify tag) s = .next (s.replied .identify tag (.one
      [3, 0x4C, 0x46, 0x56, 6, 0x44, 0x42, 0x2D, 0x34, 0x35, 0x30, 1, 4, 5])) ∧
    (∀ slot list index, exec (.readRecipe tag slot list index) s =
      .next (s.replied (.readRecipe slot list index) tag (s.readRecipe slot list index))) ∧
    (∀ start, exec (.readLog tag start) s = .next (s.replied (.readLog start) tag (s.readLog start))) ∧
    exec (.queryPower tag) s = .next (s.replied .queryPower tag (.ok (segments 0 4 s.powerContent))) ∧
    exec (.queryGas tag) s = .next (s.replied .queryGas tag (.ok (segments 0 4 s.gasContent))) ∧
    exec (.queryTube tag b) s = .next (s.replied (.queryTube b) tag (.ok (segments 0 4 (s.tubeContent t)))) ∧
    exec (.queryZones tag b) s = .next (s.replied (.queryZones b) tag (.ok (segments 0 4 (s.zonesContent t)))) ∧
    exec (.queryAtmosphere tag b) s =
      .next (s.replied (.queryAtmosphere b) tag (.ok (segments 0 4 (s.atmosphereContent t)))) ∧
    exec (.queryBoat tag b) s = .next (s.replied (.queryBoat b) tag (.ok (segments 0 4 (s.boatContent t)))) ∧
    exec (.queryFaults tag b) s = .next (s.replied (.queryFaults b) tag (.ok (segments 0 4 (s.faultsContent t)))) ∧
    (∀ c, tubeField c = none →
      exec (.queryTube tag c) s = .next (s.replied (.queryTube c) tag (.no .badField 1)) ∧
      exec (.queryZones tag c) s = .next (s.replied (.queryZones c) tag (.no .badField 1)) ∧
      exec (.queryAtmosphere tag c) s = .next (s.replied (.queryAtmosphere c) tag (.no .badField 1)) ∧
      exec (.queryBoat tag c) s = .next (s.replied (.queryBoat c) tag (.no .badField 1)) ∧
      exec (.queryFaults tag c) s = .next (s.replied (.queryFaults c) tag (.no .badField 1))) ∧
    (∀ start : Quad,
      let held := s.faults.log
      let oldest := (held.head?.map LogRec.seq).getD 0
      let carried (gap : Bool) (xs : List LogRec) : Answer :=
        .one (u8 held.length ++ u32 oldest ++ u32 s.faults.nextSeq ++ [if gap then 1 else 0] ++ u8 xs.length ++
          xs.flatMap LogRec.bytes)
      (s.faults.nextSeq < start.toNat → s.readLog start = carried true (held.take 8)) ∧
      (start.toNat ≤ s.faults.nextSeq → held ≠ [] → start.toNat < oldest →
        s.readLog start = carried true ((held.filter fun r => start.toNat ≤ r.seq).take 8)) ∧
      (start.toNat ≤ s.faults.nextSeq → held = [] ∨ oldest ≤ start.toNat →
        s.readLog start = carried false ((held.filter fun r => start.toNat ≤ r.seq).take 8))) ∧
    (∀ slot list index : Byte, slotField slot = none → s.readRecipe slot list index = .no .badField 1) ∧
    (∀ (slot list index : Byte) (i : Fin 16) (l : ListSel), slotField slot = some i → ListSel.ofCode list.toNat = some l →
      (48 < index.toNat → s.readRecipe slot list index = .no .badField 3) ∧
      (index.toNat ≤ 48 → s.store.recipe? i = none → s.readRecipe slot list index = .no .noSuchRecipe 0) ∧
      (∀ r, index.toNat ≤ 48 → s.store.recipe? i = some r →
        let declared := match l with
          | .main => r.mainCount
          | .tail => r.tailCount
        let stored := match l with
          | .main => r.main
          | .tail => r.tail
        (index = 0 → s.readRecipe slot list index = .one (u8 (i.val + 1) ++ [if r.closed then 2 else 1] ++
          u8 r.name.length ++ r.name ++ u8 r.owner ++ [if r.resident then 1 else 0] ++ u8 r.zoneCount ++
          u8 r.mainCount ++ u8 r.tailCount ++ u8 r.main.length ++ u8 r.tail.length ++ u8 r.inUse ++
          u16 (384 - s.store.reserved))) ∧
        (index ≠ 0 → declared < index.toNat → s.readRecipe slot list index = .no .badField 3) ∧
        (index ≠ 0 → index.toNat ≤ declared → stored.length < index.toNat →
          s.readRecipe slot list index = .no .incomplete 0) ∧
        (∀ st, index ≠ 0 → index.toNat ≤ declared → stored[index.toNat - 1]? = some st →
          s.readRecipe slot list index = .one (u8 l.code ++ u8 index.toNat ++ stepBytes st.raw))))

/-- The QUERY_TUBE reply is one segment of 30 bytes laid out as its table says; the other queries’ contents item by
item (widths, places: log entry 7) (R29, R69, R83, R99, R119, R137, R154, R166, R170). -/
def Obligations.QueryTubeReplyFitsItsTable : Prop :=
  (∀ (s : State) (t : Tube),
    let r := s.run.get t
    let byte (n : Nat) : Byte := BitVec.ofNat 8 n
    let mark (b : Bool) : Byte := if b then 1 else 0
    let duration := ((s.currentStep t).map fun st => st.duration).getD 0
    segments 0 4 (s.tubeContent t) = [[0x80, byte t.number, byte (s.runState t).code,
      byte ((r.recipe.map fun i => i.val + 1).getD 0), byte r.list.code, byte r.step, byte (r.timer / 256), byte r.timer,
      mark r.timeoutRaised, byte (((s.currentStep t).map fun st => st.endCond.code).getD 0xFF), byte (duration / 256),
      byte duration, byte ((if r.holdHost then 1 else 0) + (if r.holdFault then 2 else 0)), byte r.mask,
      byte r.bank.val, byte r.params.rate, byte (r.params.band / 256), byte r.params.band,
      byte (r.params.holdback / 256), byte r.params.holdback, mark r.params.lockstep, mark r.tempView, mark r.boatView,
      mark r.gasView, byte (s.thermal.get t).inhibit.code,
      byte (((s.faults.pointer.get t).map FaultKind.code).getD 0), byte (r.startStamp / 16777216),
      byte (r.startStamp / 65536), byte (r.startStamp / 256), byte r.startStamp]]) ∧
(∀ (s : State) (t : Tube),
    let byte (n : Nat) : Byte := BitVec.ofNat 8 n
    let two (n : Nat) : List Byte := [byte (n / 256), byte n]
    let four (n : Nat) : List Byte := [byte (n / 16777216), byte (n / 65536), byte (n / 256), byte n]
    let mark (b : Bool) : Byte := if b then 1 else 0
    let present (o : Option Nat) : List Byte := match o with
      | none => [0]
      | some v => 1 :: two v
    let temp (x : Sample) : List Byte := match x with
      | .temp v => two v
      | .isOpen => [0xFF, 0xFF]
      | .absent => [0xFF, 0xFE]
    let flows (f : Flows) : List Byte := two f.n2 ++ two f.o2 ++ two f.h2 ++ two f.aux
    let lines : List GasLine := [.n2, .o2, .h2, .aux]
    let tubes : List Tube := [.t1, .t2, .t3, .t4]
    let five : List Zone := [.z1, .z2, .z3, .z4, .z5]
    let cfg := s.tubeConfig t
    let th := s.thermal.get t
    let a := s.atm.get t
    let b := s.boat.get t
    let fb := s.faults
    (s.zonesContent t = [byte th.runState.code, byte cfg.activeZones, byte th.params.rate] ++ two th.params.band ++
      two th.params.holdback ++ [mark th.params.lockstep] ++ two th.counter ++
      [mark th.stalled, byte th.inhibit.code, byte (s.run.get t).bank.val] ++
      (five.take cfg.activeZones).flatMap fun z =>
        let r := th.zones.get z
        let k := s.banks[(s.run.get t).bank].get z
        temp r.profile ++ temp r.spike ++ two r.sp ++ four r.setpoint ++ four r.origin ++ four r.target ++
          [byte r.remainder, mark r.complete] ++ four r.integral ++ two r.demand ++
          [mark ((s.alloc.zones.get t).get z).starved] ++ two k.kp ++ two k.ki ++ two k.lmax ++
          [mark r.tcOpen, mark r.overtemp, mark r.disagree, mark r.deviation]) ∧
    (s.powerContent = two (s.alloc.budget.getD 0) ++ two s.config.bank.shedBudget ++ [mark s.alloc.shed] ++
      four s.alloc.effective ++ four s.effectiveBudget ++ [mark s.alloc.shedActive] ++
      (([.soak, .ramp, .other] : List PowerClass).flatMap fun k =>
        four (s.alloc.results.get k).demand ++ four (s.alloc.results.get k).granted ++
          [mark (s.alloc.results.get k).short, byte (s.alloc.pointers.get k)]) ++
      tubes.flatMap fun u => five.flatMap fun z =>
        let r := (s.alloc.zones.get u).get z
        [mark r.part, match r.cls with | .soak => 3 | .ramp => 2 | .other => 1] ++
          two ((s.thermal.get u).zones.get z).demand ++ two r.watts ++ two r.grant ++ [mark r.starved] ++
          two r.firing ++ two r.timer ++ [mark r.starvedCond]) ∧
    (s.gasContent =
      (lines.flatMap fun l =>
        let sum := s.gas.grantedSum l fun _ => true
        byte (s.config.bank.headers.get l) :: four sum ++ four (1000 * s.config.bank.headers.get l - sum)) ++
      two s.config.bank.waitTimeout ++ [byte s.gas.queue.length] ++
      (s.gas.queue.flatMap fun e => byte e.tube.number :: flows e.flows ++ two e.age ++ [mark e.timedOut]) ++
      tubes.flatMap fun u => mark (s.gas.safety.get u) :: flows (s.gas.granted.get u) ++
        lines.flatMap fun l =>
          let r := (s.gas.lines.get u).get l
          let scale := (s.tubeConfig u).scale.get l
          two r.command ++ [mark r.valve] ++ present r.readback ++ two scale ++ two (scale * 5 / 100) ++ two r.age ++
            [byte r.devRun, mark r.raised, mark r.deviation]) ∧
    (s.atmosphereContent t = [byte a.state.code, byte a.cls.code, byte (phaseCode a.awaited),
        mark (a.awaited.isSome && (a.state = .preflow || a.state = .lit))] ++ flows a.requested ++ flows a.target ++
      [byte a.targetClass.code, mark a.fallback] ++ flows a.inForce ++ two (cfg.ratio * a.target.o2 / 100) ++
      [byte a.purgeOrigin.code, mark a.purged] ++ four a.purgeTarget ++ four a.purgeVolume ++ [byte a.purgeRemainder] ++
      two a.purgeTimer ++ four a.purgeLimit ++ [mark a.incomplete] ++ two a.phaseTimer ++
      [byte (match a.state with
        | .preflow => cfg.preflowTime
        | .ignite => cfg.ignitionTimeout
        | .extinguish => cfg.postFlowTime
        | _ => 0), mark a.igniter, mark a.flame, mark a.safeHold]) ∧
    (s.boatContent t = [byte b.state.code, mark b.target.isSome] ++ present b.target ++ two b.stepSpeed ++
      [mark b.closePending, mark b.failed] ++ present b.pos ++ present b.measured ++
      present (match b.pos, b.measured with
        | some x, some y => some (Sys2Proof.dist x y)
        | _, _ => none) ++
      [byte b.remainder] ++ two b.effSpeed ++ two b.speedCmd ++
      [byte b.direction.code, byte ((if b.pauseHold then 1 else 0) + (if b.pauseN2 then 2 else 0)), mark b.holdFlag] ++
      two b.phaseTimer ++
      [byte (match b.state with
        | .shutterOpening | .shutterClosing => 30
        | .settle => 10
        | _ => 0), byte b.shutter.code, mark b.openLimit, mark b.closedLimit, byte b.speedTable.length] ++
      (b.speedTable.flatMap fun e => two e.1 ++ two e.2) ++ temp (th.zones.get .z1).profile ++
      two (speedLimit b.speedTable (th.zones.get .z1).profile) ++ present (s.gas.lines.get t).n2.readback ++
      two cfg.boatN2Min ++ [byte a.state.code] ++ two cfg.stallLimit ++ two cfg.travel) ∧
    (s.faultsContent t =
      (let held := FaultKind.list.filter fun k => (fb.entry? t k).isSome
       byte held.length :: held.flatMap fun k =>
        let e := (fb.entry? t k).getD { count := 0, acted := false, stamp := 0 }
        [byte k.code, byte e.count, mark e.acted] ++ four e.stamp ++
          [mark (fb.holdingEntry t k), mark (s.condition t k)]) ++
      [byte (((fb.pointer.get t).map FaultKind.code).getD 0), byte (s.run.get t).mask, byte th.inhibit.code,
        mark fb.hydrogen, mark fb.interlock, mark fb.exhaust, mark fb.hydrogen, mark (!fb.interlock),
        mark (!fb.exhaust)] ++
      (FaultKind.list.flatMap fun k =>
        let p := fb.policyOf k
        [mark p.enable, byte p.level, byte p.action.code, mark k.fixed]) ++
      [byte fb.log.length] ++ four fb.nextSeq))

/-- CONFIGURE_TUBE and CONFIGURE_BANK are refused at the first field out of range, write their record while unlocked,
and are refused while locked (R172, R173, R174). -/
def Obligations.ConfigurationIsWrittenUntilLocked : Prop :=
  ((∀ (s : State) (tag tube fitted zones : Byte) (f : TubeFields) (n2 o2 h2 aux : Byte) (shed wait : Half),
    s.canTake = true → wellFormed (.configureTube tag tube fitted zones f) = true →
    let inRange : Prop :=
      (3 ≤ zones.toNat ∧ zones.toNat ≤ 5) ∧
      (f.ratings.length = zones.toNat ∧ ∀ b ∈ f.ratings, 1 ≤ b.toNat ∧ b.toNat ≤ 250) ∧
      (2000 ≤ f.maxTemp.toNat ∧ f.maxTemp.toNat ≤ 13000) ∧
      (f.maxTemp.toNat ≤ f.elementLimit.toNat ∧ f.elementLimit.toNat ≤ 13500) ∧
      (200 ≤ f.disagreeLimit.toNat ∧ f.disagreeLimit.toNat ≤ 3000) ∧
      (10 ≤ f.deviationBand.toNat ∧ f.deviationBand.toNat ≤ 1000) ∧
      (f.idleTemp.toNat = 0 ∨
        2000 ≤ f.idleTemp.toNat ∧ f.idleTemp.toNat ≤ 9000 ∧ f.idleTemp.toNat ≤ f.maxTemp.toNat) ∧
      (1 ≤ f.idleRate.toNat ∧ f.idleRate.toNat ≤ 200) ∧ (1 ≤ f.scaleN2.toNat ∧ f.scaleN2.toNat ≤ 50000) ∧
      f.scaleO2.toNat ≤ 30000 ∧ f.scaleH2.toNat ≤ 20000 ∧ f.scaleAux.toNat ≤ 5000 ∧
      f.idleN2.toNat ≤ f.scaleN2.toNat ∧ (1 ≤ f.purgeN2.toNat ∧ f.purgeN2.toNat ≤ f.scaleN2.toNat) ∧
      f.safetyN2.toNat ≤ f.scaleN2.toNat ∧ (100 ≤ f.ratio.toNat ∧ f.ratio.toNat ≤ 190) ∧
      (if 0 < f.scaleH2.toNat then 1 ≤ f.ignitionH2.toNat ∧ f.ignitionH2.toNat ≤ f.scaleH2.toNat
       else f.ignitionH2.toNat = 0) ∧
      (10 ≤ f.volume.toNat ∧ f.volume.toNat ≤ 400) ∧ (1 ≤ f.exchanges.toNat ∧ f.exchanges.toNat ≤ 10) ∧
      (3 ≤ f.preflowTime.toNat ∧ f.preflowTime.toNat ≤ 60) ∧
      (2 ≤ f.ignitionTimeout.toNat ∧ f.ignitionTimeout.toNat ≤ 30) ∧
      (5 ≤ f.postFlowTime.toNat ∧ f.postFlowTime.toNat ≤ 120) ∧ (8000 ≤ f.travel.toNat ∧ f.travel.toNat ≤ 24000) ∧
      f.boatN2Min.toNat ≤ f.scaleN2.toNat ∧ (50 ≤ f.stallLimit.toNat ∧ f.stallLimit.toNat ≤ 500) ∧
      f.defaultBank.toNat ≤ 7 ∧ (10 ≤ f.starveLimit.toNat ∧ f.starveLimit.toNat ≤ 600)
    let record : TubeConfig :=
      { status := .fitted, activeZones := zones.toNat, ratings := f.ratings.map BitVec.toNat,
        maxTemp := f.maxTemp.toNat, elementLimit := f.elementLimit.toNat, disagreeLimit := f.disagreeLimit.toNat,
        deviationBand := f.deviationBand.toNat, idleTemp := f.idleTemp.toNat, idleRate := f.idleRate.toNat,
        scale := { n2 := f.scaleN2.toNat, o2 := f.scaleO2.toNat, h2 := f.scaleH2.toNat, aux := f.scaleAux.toNat },
        idleN2 := f.idleN2.toNat, purgeN2 := f.purgeN2.toNat, safetyN2 := f.safetyN2.toNat, ratio := f.ratio.toNat,
        ignitionH2 := f.ignitionH2.toNat, volume := f.volume.toNat, exchanges := f.exchanges.toNat,
        preflowTime := f.preflowTime.toNat, ignitionTimeout := f.ignitionTimeout.toNat,
        postFlowTime := f.postFlowTime.toNat, travel := f.travel.toNat, boatN2Min := f.boatN2Min.toNat,
        stallLimit := f.stallLimit.toNat, defaultBank := Fin.ofNat 8 f.defaultBank.toNat,
        starveLimit := f.starveLimit.toNat }
    (s.config.locked = true →
      exec (.configureTube tag tube fitted zones f) s =
        .next (s.replied (.configureTube tube fitted zones f) tag (.no .locked 0)) ∧
      exec (.configureBank tag n2 o2 h2 aux shed wait) s =
        .next (s.replied (.configureBank n2 o2 h2 aux shed wait) tag (.no .locked 0))) ∧
    (firstFail (tubeChecks zones f) = none ↔ inRange) ∧
    (s.config.locked = false → fitted = 1 → tubeField tube ≠ none → ∀ n, firstFail (tubeChecks zones f) = some n →
      exec (.configureTube tag tube fitted zones f) s =
        .next (s.replied (.configureTube tube fitted zones f) tag (.no .badField n))) ∧
    (s.config.locked = false → ∀ t, tubeField tube = some t →
      (fitted = 0 → ∃ n, exec (.configureTube tag tube fitted zones f) s = .next n ∧
        n.config = { s.config with tubes := s.config.tubes.set t { TubeConfig.reset with status := .notFitted } } ∧
        n.run = s.run ∧ n.gas = s.gas ∧ n.atm = s.atm ∧ n.boat = s.boat ∧ n.faults = s.faults ∧ n.store = s.store ∧
        n.alloc = s.alloc ∧ n.banks = s.banks ∧ n.time = s.time) ∧
      (fitted = 1 → inRange →
        ∃ n, exec (.configureTube tag tube fitted zones f) s = .next n ∧
        n.config = { s.config with tubes := s.config.tubes.set t record } ∧
        n.run = s.run ∧ n.gas = s.gas ∧ n.atm = s.atm ∧ n.boat = s.boat ∧ n.faults = s.faults ∧ n.store = s.store ∧
        n.alloc = s.alloc ∧ n.banks = s.banks ∧ n.time = s.time)) ∧
    (s.config.locked = false →
      (n2.toNat = 0 ∨ 10 ≤ n2.toNat ∧ n2.toNat ≤ 200) → (o2.toNat = 0 ∨ 5 ≤ o2.toNat ∧ o2.toNat ≤ 100) →
      (h2.toNat = 0 ∨ 2 ≤ h2.toNat ∧ h2.toNat ≤ 60) → (aux.toNat = 0 ∨ 1 ≤ aux.toNat ∧ aux.toNat ≤ 10) →
      shed.toNat ≤ 600 → (wait.toNat = 0 ∨ 10 ≤ wait.toNat ∧ wait.toNat ≤ 3600) →
      exec (.configureBank tag n2 o2 h2 aux shed wait) s = .next (State.replied
        { s with config := { s.config with bank :=
          { headers := { n2 := n2.toNat, o2 := o2.toNat, h2 := h2.toNat, aux := aux.toNat },
            shedBudget := shed.toNat, waitTimeout := wait.toNat } } }
        (.configureBank n2 o2 h2 aux shed wait) tag
        (.one ([n2, o2, h2, aux] ++ u16 shed.toNat ++ u16 wait.toNat))))) ∧
(∀ (s : State) (tag tube fitted zones : Byte) (f : TubeFields), s.canTake = true → s.config.locked = false →
    wellFormed (.configureTube tag tube fitted zones f) = true →
    let refused (n : Nat) : Prop := exec (.configureTube tag tube fitted zones f) s =
      .next (s.replied (.configureTube tube fitted zones f) tag (.no .badField n))
    (tube.toNat = 0 ∨ 4 < tube.toNat → refused 1) ∧
    (1 ≤ tube.toNat → tube.toNat ≤ 4 → 1 < fitted.toNat → refused 2)) ∧
(∀ (s : State) (tag n2 o2 h2 aux : Byte) (shed wait : Half), s.canTake = true → s.config.locked = false →
    let refused (n : Nat) : Prop := exec (.configureBank tag n2 o2 h2 aux shed wait) s =
      .next (s.replied (.configureBank n2 o2 h2 aux shed wait) tag (.no .badField n))
    let ok (v low high : Nat) : Prop := v = 0 ∨ low ≤ v ∧ v ≤ high
    (¬ ok n2.toNat 10 200 → refused 1) ∧
    (ok n2.toNat 10 200 → (¬ ok o2.toNat 5 100 → refused 2) ∧
    (ok o2.toNat 5 100 → (¬ ok h2.toNat 2 60 → refused 3) ∧
    (ok h2.toNat 2 60 → (¬ ok aux.toNat 1 10 → refused 4) ∧
    (ok aux.toNat 1 10 → (600 < shed.toNat → refused 5) ∧
    (shed.toNat ≤ 600 → ¬ ok wait.toNat 10 3600 → refused 6))))))) ∧
(∀ (s : State) (tag tube zones : Byte) (f : TubeFields) (n : Nat), s.canTake = true → s.config.locked = false →
    wellFormed (.configureTube tag tube 1 zones f) = true → 1 ≤ tube.toNat → tube.toNat ≤ 4 →
    let inRange : Nat → Prop := fun k => match k with
      | 3 => 3 ≤ zones.toNat ∧ zones.toNat ≤ 5
      | 4 => f.ratings.length = zones.toNat ∧ ∀ b ∈ f.ratings, 1 ≤ b.toNat ∧ b.toNat ≤ 250
      | 5 => 2000 ≤ f.maxTemp.toNat ∧ f.maxTemp.toNat ≤ 13000
      | 6 => f.maxTemp.toNat ≤ f.elementLimit.toNat ∧ f.elementLimit.toNat ≤ 13500
      | 7 => 200 ≤ f.disagreeLimit.toNat ∧ f.disagreeLimit.toNat ≤ 3000
      | 8 => 10 ≤ f.deviationBand.toNat ∧ f.deviationBand.toNat ≤ 1000
      | 9 => f.idleTemp.toNat = 0 ∨
          2000 ≤ f.idleTemp.toNat ∧ f.idleTemp.toNat ≤ 9000 ∧ f.idleTemp.toNat ≤ f.maxTemp.toNat
      | 10 => 1 ≤ f.idleRate.toNat ∧ f.idleRate.toNat ≤ 200
      | 11 => 1 ≤ f.scaleN2.toNat ∧ f.scaleN2.toNat ≤ 50000
      | 12 => f.scaleO2.toNat ≤ 30000
      | 13 => f.scaleH2.toNat ≤ 20000
      | 14 => f.scaleAux.toNat ≤ 5000
      | 15 => f.idleN2.toNat ≤ f.scaleN2.toNat
      | 16 => 1 ≤ f.purgeN2.toNat ∧ f.purgeN2.toNat ≤ f.scaleN2.toNat
      | 17 => f.safetyN2.toNat ≤ f.scaleN2.toNat
      | 18 => 100 ≤ f.ratio.toNat ∧ f.ratio.toNat ≤ 190
      | 19 => if 0 < f.scaleH2.toNat then 1 ≤ f.ignitionH2.toNat ∧ f.ignitionH2.toNat ≤ f.scaleH2.toNat
              else f.ignitionH2.toNat = 0
      | 20 => 10 ≤ f.volume.toNat ∧ f.volume.toNat ≤ 400
      | 21 => 1 ≤ f.exchanges.toNat ∧ f.exchanges.toNat ≤ 10
      | 22 => 3 ≤ f.preflowTime.toNat ∧ f.preflowTime.toNat ≤ 60
      | 23 => 2 ≤ f.ignitionTimeout.toNat ∧ f.ignitionTimeout.toNat ≤ 30
      | 24 => 5 ≤ f.postFlowTime.toNat ∧ f.postFlowTime.toNat ≤ 120
      | 25 => 8000 ≤ f.travel.toNat ∧ f.travel.toNat ≤ 24000
      | 26 => f.boatN2Min.toNat ≤ f.scaleN2.toNat
      | 27 => 50 ≤ f.stallLimit.toNat ∧ f.stallLimit.toNat ≤ 500
      | 28 => f.defaultBank.toNat ≤ 7
      | 29 => 10 ≤ f.starveLimit.toNat ∧ f.starveLimit.toNat ≤ 600
      | _ => True
    (∀ k < n, inRange k) → ¬ inRange n →
    exec (.configureTube tag tube 1 zones f) s =
      .next (s.replied (.configureTube tube 1 zones f) tag (.no .badField n)))

/-- COMMISSION is refused in the order of its checks, or locks and brings each fitted tube into IDLE (R3, R5, R6, R56,
R175). -/
def Obligations.CommissionChecksAndLocks : Prop :=
  (∀ (s : State) (tag : Byte), s.canTake = true →
    (s.config.locked = true → exec (.commission tag) s = .next (s.replied .commission tag (.no .locked 0))) ∧
    (s.config.locked = false →
      ((∃ t, (s.tubeConfig t).status = .unconfigured) ∨ (∀ t, (s.tubeConfig t).status ≠ .fitted)) →
      exec (.commission tag) s = .next (s.replied .commission tag (.no .incomplete 0))) ∧
    (s.config.locked = false → (∀ t, (s.tubeConfig t).status ≠ .unconfigured) →
      (∃ t, (s.tubeConfig t).status = .fitted) → s.alloc.budget = none →
      exec (.commission tag) s = .next (s.replied .commission tag (.no .noBudget 0))) ∧
    (s.config.locked = false → (∀ t, (s.tubeConfig t).status ≠ .unconfigured) →
      (∃ t, (s.tubeConfig t).status = .fitted) → s.alloc.budget ≠ none →
      ∃ n, exec (.commission tag) s = .next n ∧ n.config = { s.config with locked := true } ∧
        n.banks = s.banks ∧ n.time = s.time ∧ n.pending = s.pending ∧ n.alloc.budget = s.alloc.budget ∧
        (∀ t, (s.tubeConfig t).status ≠ .fitted → s.runState t = .offline → n.runState t = .offline))) ∧
    (∀ (s : State) (tag : Byte), s.canTake = true → s.config.locked = false →
      (∀ t, (s.tubeConfig t).status ≠ .unconfigured) → (∃ t, (s.tubeConfig t).status = .fitted) → s.alloc.budget ≠ none →
      (∀ t, s.runState t = .offline ∧ (s.atm.get t).state = .stable ∧ (s.atm.get t).cls = .inert ∧
        (s.atm.get t).safeHold = false ∧ s.gas.granted.get t = { n2 := 0, o2 := 0, h2 := 0, aux := 0 } ∧
        (s.boat.get t).state = .ready ∧ (s.thermal.get t).inhibit = .clear) →
      s.gas.queue = [] → s.alloc.shed = false → s.faults.hydrogen = false → s.faults.interlock = true →
      s.faults.exhaust = true →
      (∀ t z, (s.tubeConfig t).status = .fitted → z.number ≤ (s.tubeConfig t).activeZones →
        let r := (s.thermal.get t).zones.get z
        r.tcOpenHolds = false ∧ r.overtempHolds (s.tubeConfig t) = false ∧ r.disagreeHolds (s.tubeConfig t) = false) →
      ∃ n, exec (.commission tag) s = .next n ∧ ∀ t, (s.tubeConfig t).status = .fitted →
        let cfg := s.tubeConfig t
        n.runState t = .idle ∧ (n.thermal.get t).runState = .idle ∧ (n.run.get t).bank = cfg.defaultBank ∧
        (n.run.get t).mask = 0 ∧
        (n.run.get t).params = { rate := cfg.idleRate, band := 0, holdback := 0, lockstep := true } ∧
        (n.thermal.get t).inhibit = (if cfg.idleTemp = 0 then .idle else .clear) ∧
        (n.atm.get t).requested = { n2 := cfg.idleN2, o2 := 0, h2 := 0, aux := 0 } ∧
        ∀ (z : Zone) (v : Nat), z.number ≤ cfg.activeZones → ((s.thermal.get t).zones.get z).profile = .temp v →
          let r := (n.thermal.get t).zones.get z
          r.setpoint = v * 100 ∧ r.origin = v * 100 ∧
          r.target = (if cfg.idleTemp = 0 then v * 100 else cfg.idleTemp * 100))

/-- RESTART is refused while a tube holds a run, and otherwise the reset follows its OK (R177). -/
def Obligations.RestartIsRefusedDuringARun : Prop :=
  ∀ (s : State) (tag : Byte), s.canTake = true →
    ((∃ t, s.runState t = .running ∨ s.runState t = .holding ∨ s.runState t = .aborting) →
      exec (.restart tag) s = .next (s.replied .restart tag (.no .wrongState 0))) ∧
    ((∀ t, s.runState t ≠ .running ∧ s.runState t ≠ .holding ∧ s.runState t ≠ .aborting) →
      s.link.tx = none → s.link.replies = [] →
      ∃ n, exec (.restart tag) s = .next n ∧ n.link.restarting = true ∧ n.link.ready = false ∧
        exec .transmitComplete n = .next (State.resetAt s.lines false s.pending))

/-- RUN is refused at a tube or slot out of range, then by the first of its five checks that fails (index 0 of a slot’s
reasons: log entry 39) (R8). -/
def Obligations.RunIsRefusedInItsOrder : Prop :=
  (((∀ (s : State) (tag b x : Byte) (t : Tube) (i : Fin 16),
      s.canTake = true → tubeField b = some t → slotField x = some i →
      (s.runState t ≠ .idle → exec (.run tag b x) s = .next (s.replied (.run b x) tag (.no .wrongState 0))) ∧
      (s.runState t = .idle → (∀ r, s.store.recipe? i = some r → r.closed = false) →
        exec (.run tag b x) s = .next (s.replied (.run b x) tag (.no .noSuchRecipe 0))) ∧
      (∀ r, s.runState t = .idle → s.store.recipe? i = some r → r.closed = true →
        (r.zoneCount ≠ (s.tubeConfig t).activeZones →
          exec (.run tag b x) s = .next (s.replied (.run b x) tag (.no .mismatch 0))) ∧
        (r.zoneCount = (s.tubeConfig t).activeZones →
          (∀ l k f, (s.tubeConfig t).recipeRange r = some (l, k, f) →
            exec (.run tag b x) s = .next (s.replied (.run b x) tag (.refuse .range f (l, k)))) ∧
          ((s.tubeConfig t).recipeRange r = none → s.faults.anyHolding t = true →
            exec (.run tag b x) s = .next (s.replied (.run b x) tag (.no .faultPending 0)))))) ∧
    (∀ (c : TubeConfig) (r : Recipe), c.recipeRange r = none ↔
      ∀ st ∈ r.main ++ r.tail, (∀ v ∈ st.flows.n2, v ≤ c.scale.n2) ∧ (∀ v ∈ st.flows.o2, v ≤ c.scale.o2) ∧
        (∀ v ∈ st.flows.h2, v ≤ c.scale.h2) ∧ (∀ v ∈ st.flows.aux, v ≤ c.scale.aux) ∧
        (∀ m ∈ st.move, m.1 ≤ c.travel))) ∧
(∀ (s : State) (tag b x : Byte), s.canTake = true →
    (b.toNat = 0 ∨ 4 < b.toNat →
      exec (.run tag b x) s = .next (s.replied (.run b x) tag (.no .badField 1)) ∧
      exec (.hold tag b) s = .next (s.replied (.hold b) tag (.no .badField 1)) ∧
      exec (.resume tag b) s = .next (s.replied (.resume b) tag (.no .badField 1)) ∧
      exec (.skipStep tag b) s = .next (s.replied (.skipStep b) tag (.no .badField 1)) ∧
      exec (.abort tag b) s = .next (s.replied (.abort b) tag (.no .badField 1)) ∧
      exec (.safeStop tag b) s = .next (s.replied (.safeStop b) tag (.no .badField 1)) ∧
      exec (.recover tag b) s = .next (s.replied (.recover b) tag (.no .badField 1))) ∧
    (1 ≤ b.toNat → b.toNat ≤ 4 → x.toNat = 0 ∨ 16 < x.toNat →
      exec (.run tag b x) s = .next (s.replied (.run b x) tag (.no .badField 2))))) ∧
(∀ (c : TubeConfig) (r : Recipe) (pre post : List Step) (st : Step) (n : Nat),
    let fits (x : Step) : Nat → Prop := fun k => match k with
      | 8 => ∀ v ∈ x.flows.n2, v ≤ c.scale.n2
      | 9 => ∀ v ∈ x.flows.o2, v ≤ c.scale.o2
      | 10 => ∀ v ∈ x.flows.h2, v ≤ c.scale.h2
      | 11 => ∀ v ∈ x.flows.aux, v ≤ c.scale.aux
      | 12 => ∀ m ∈ x.move, m.1 ≤ c.travel
      | _ => True
    let clean (xs : List Step) : Prop := ∀ x ∈ xs, ∀ k, fits x k
    clean pre → (∀ k < n, fits st k) → ¬ fits st n →
    (r.main = pre ++ st :: post → c.recipeRange r = some (0, pre.length + 1, n)) ∧
    (clean r.main → r.tail = pre ++ st :: post → c.recipeRange r = some (1, pre.length + 1, n)))

/-- RUN that passes its checks takes the tube to RUNNING at main step 1 (R2, R3, R9, R10, R11). -/
def Obligations.RunIsTaken : Prop :=
  ∀ (s : State) (tag b x : Byte) (t : Tube) (i : Fin 16) (r : Recipe) (st : Step) (sts : List Step),
    s.canTake = true → tubeField b = some t → slotField x = some i → s.runCheck t i = none →
    s.store.recipe? i = some r → r.main = st :: sts → st.endCond = .time → 1 ≤ st.duration → st.hasGas = false →
    (s.atm.get t).state ≠ .preflow →
    ∃ n, exec (.run tag b x) s = .next n ∧ n.runState t = .running ∧
      (n.run.get t).recipe = some i ∧ (n.run.get t).list = .main ∧ (n.run.get t).step = 1 ∧
      (n.run.get t).timer = 0 ∧ (n.run.get t).timeoutRaised = false ∧ (n.run.get t).holdHost = false ∧
      (n.run.get t).holdFault = false ∧ (n.run.get t).mask = st.mask.getD 0 ∧
      (n.run.get t).bank = st.bank.getD (s.tubeConfig t).defaultBank ∧
      (n.run.get t).params =
        { rate := st.rate.getD (s.tubeConfig t).idleRate, band := st.band.getD 0,
          holdback := st.holdback.getD 0, lockstep := st.lockstep.getD true } ∧
      (n.run.get t).startStamp = s.stamp ∧ n.store.recipe? i = some { r with inUse := r.inUse + 1 } ∧
      n.faults = s.faults ∧ n.gas = s.gas ∧ n.atm = s.atm ∧ s.sameSettings n ∧
      (∀ u, u ≠ t → n.run.get u = s.run.get u ∧ n.thermal.get u = s.thermal.get u ∧ n.boat.get u = s.boat.get u)

/-- HOLD takes a RUNNING tube to HOLDING, freezes its timer and pauses its boat; elsewhere it is refused (R19, R20). -/
def Obligations.HoldIsTaken : Prop :=
  ∀ (s : State) (tag b : Byte) (t : Tube), s.canTake = true → tubeField b = some t →
    (s.runState t ≠ .running → exec (.hold tag b) s = .next (s.replied (.hold b) tag (.no .wrongState 0))) ∧
    (s.runState t = .running → ∃ n, exec (.hold tag b) s = .next n ∧
      n.run.get t = { s.run.get t with state := .holding, holdHost := true, boatView := (n.run.get t).boatView } ∧
      n.thermal.get t = { s.thermal.get t with runState := .holding, counter := 0, stalled := false } ∧
      ((s.boat.get t).state = .travel → (n.boat.get t).state = .paused ∧ (n.boat.get t).speedCmd = 0) ∧
      (n.boat.get t).pos = (s.boat.get t).pos ∧ s.sameTubesBut n t ∧ n.store = s.store ∧ n.gas = s.gas ∧
      n.atm = s.atm ∧ n.faults = s.faults ∧ n.alloc = s.alloc ∧ s.sameSettings n)

/-- RESUME returns a HOLDING tube without a holding entry to RUNNING; otherwise it is refused (R20, R21). -/
def Obligations.ResumeIsTakenOrRefused : Prop :=
  ∀ (s : State) (tag b : Byte) (t : Tube), s.canTake = true → tubeField b = some t →
    (s.runState t ≠ .holding → exec (.resume tag b) s = .next (s.replied (.resume b) tag (.no .wrongState 0))) ∧
    (s.runState t = .holding → s.faults.anyHolding t = true →
      exec (.resume tag b) s = .next (s.replied (.resume b) tag (.no .faultPending 0))) ∧
    (∀ st, s.runState t = .holding → s.faults.anyHolding t = false → s.currentStep t = some st →
      st.endCond = .time → (s.run.get t).timer < st.duration →
      ∃ n, exec (.resume tag b) s = .next n ∧
      n.run.get t = { s.run.get t with state := .running, holdHost := false, holdFault := false,
                                       boatView := (n.run.get t).boatView } ∧
      ((s.boat.get t).state = .paused → (s.boat.get t).pauseN2 = false → (n.boat.get t).state = .travel) ∧
      (n.boat.get t).holdFlag = false ∧ n.gas = s.gas ∧ n.atm = s.atm ∧ n.faults = s.faults ∧ n.store = s.store ∧
      s.sameTubesBut n t ∧ s.sameSettings n)

/-- A step that has run out, or SKIP_STEP, enters the next step of the list, its gas request included (R10, R11, R13,
R14, R17, R22, R104). -/
def Obligations.PlainStepIsEntered : Prop :=
  ((∀ (s : State) (tag b : Byte) (t : Tube) (rc : Recipe) (cur nx : Step),
    s.inReset = false → tubeField b = some t → s.recipeOf t = some rc → s.currentStep t = some cur →
    rc.step? (s.run.get t).list ((s.run.get t).step + 1) = some nx →
    nx.endCond = .time → 1 ≤ nx.duration → nx.hasGas = false → nx.move = none →
    let entered (n : State) : Prop :=
      n.run.get t = { s.run.get t with
        step := (s.run.get t).step + 1, timer := 0, timeoutRaised := false, mask := nx.mask.getD (s.run.get t).mask,
        bank := nx.bank.getD (s.run.get t).bank,
        params := { rate := nx.rate.getD (s.run.get t).params.rate, band := nx.band.getD (s.run.get t).params.band,
                    holdback := nx.holdback.getD (s.run.get t).params.holdback,
                    lockstep := nx.lockstep.getD (s.run.get t).params.lockstep },
        tempView := if nx.targets.isSome || nx.band.isSome then false else (s.run.get t).tempView } ∧
      n.gas = s.gas ∧ n.atm = s.atm ∧ n.boat = s.boat ∧ n.faults = s.faults ∧ n.store = s.store ∧
      s.sameTubesBut n t ∧ s.sameSettings n
    (s.runState t = .running ∨ s.runState t = .aborting → cur.endCond = .time → cur.duration ≤ (s.run.get t).timer →
      ∃ n, exec (.stepTimeElapsed t) s = .next n ∧ entered n) ∧
    (s.canTake = true → s.runState t = .running → ∃ n, exec (.skipStep tag b) s = .next n ∧ entered n)) ∧
(∀ (s : State) (tag b : Byte) (t : Tube) (rc : Recipe) (cur nx : Step),
    s.canTake = true → tubeField b = some t → s.recipeOf t = some rc → s.currentStep t = some cur →
    s.runState t = .running → rc.step? (s.run.get t).list ((s.run.get t).step + 1) = some nx →
    nx.endCond = .time → 1 ≤ nx.duration → nx.hasGas = true → nx.move = none →
    let a := s.atm.get t
    let asked : Flows := { n2 := nx.flows.n2.getD a.requested.n2, o2 := nx.flows.o2.getD a.requested.o2,
                           h2 := nx.flows.h2.getD a.requested.h2, aux := nx.flows.aux.getD a.requested.aux }
    a.state = .stable → a.safeHold = false → asked.h2 = 0 → a.purged = true ∨ a.cls = classOf asked →
    s.gas.queue = [] → (∀ l, s.gas.grantedSum l (fun u => u ≠ t) + asked.get l ≤ 1000 * s.config.bank.headers.get l) →
    ∃ n, exec (.skipStep tag b) s = .next n ∧ n.runState t = .running ∧
      (n.run.get t).step = (s.run.get t).step + 1 ∧ (n.run.get t).timer = 0 ∧ (n.run.get t).gasView = true ∧
      (n.atm.get t).state = .stable ∧ (n.atm.get t).awaited = none ∧ (n.atm.get t).requested = asked ∧
      (n.atm.get t).target = asked ∧ (n.atm.get t).inForce = asked ∧ (n.atm.get t).cls = classOf asked ∧
      n.gas.queue = [] ∧ n.gas.granted.get t = asked ∧ n.gas.commands t = asked ∧
      (∀ u, u ≠ t → n.gas.granted.get u = s.gas.granted.get u ∧ n.gas.commands u = s.gas.commands u) ∧
      n.boat = s.boat ∧ n.faults = s.faults ∧ n.store = s.store ∧ s.sameTubesBut n t ∧ s.sameSettings n)) ∧
(∀ (s : State) (tag b : Byte) (t : Tube), s.canTake = true → tubeField b = some t → s.runState t ≠ .running →
    exec (.skipStep tag b) s = .next (s.replied (.skipStep b) tag (.no .wrongState 0)))

/-- The step timer, the three views and the five end conditions bring an evaluation and its step end as R13 to R16 and
log entries 3, 16 and 37 say (R13, R14, R15, R16). -/
def Obligations.StepTimerRunsInRunningAndAborting : Prop :=
  (∀ (s : State) (t : Tube), s.inReset = false →
    (∀ st, s.runState t = .running ∨ s.runState t = .aborting → s.currentStep t = some st →
      RunRec.condMet { s.run.get t with timer := min 65535 ((s.run.get t).timer + 1) } st = false →
      (st.endCond = .time ∨ (s.run.get t).timer + 1 < st.duration ∧ st.duration ≤ 65535) →
      exec (.stepTimerTick t) s =
        .next (s.setRun t { s.run.get t with timer := min 65535 ((s.run.get t).timer + 1) })) ∧
    (s.runState t ≠ .running → s.runState t ≠ .aborting → exec (.stepTimerTick t) s = .next s) ∧
    (∀ st, s.runState t = .running ∨ s.runState t = .aborting → s.currentStep t = some st → st.endCond ≠ .time →
      st.duration ≤ (s.run.get t).timer → (s.run.get t).condMet st = false →
      ((s.run.get t).timeoutRaised = false → exec (.stepTimeout t) s =
        .next ((s.setRun t { s.run.get t with timeoutRaised := true }).after [.detect (s.stepDetection t)])) ∧
      ((s.run.get t).timeoutRaised = true → exec (.stepTimeout t) s = .next s)) ∧
    (∀ st, s.currentStep t = some st → (s.runState t ≠ .running ∧ s.runState t ≠ .aborting ∨ st.endCond = .time ∨
      (s.run.get t).timer < st.duration ∨ (s.run.get t).condMet st = true) → exec (.stepTimeout t) s = .next s) ∧
    (∀ st, s.runState t = .running ∨ s.runState t = .aborting → s.currentStep t = some st →
      let r : RunRec := { s.run.get t with timer := min 65535 ((s.run.get t).timer + 1) }
      r.condMet st = true →
      exec (.stepTimerTick t) s = .next ((s.setRun t r).after [.stepEnd t, .stepTimeout t]))) ∧
(∀ (c : Ctx) (t : Tube),
    let r := c.s.run.get t
    let b := c.s.boat.get t
    let a := c.s.atm.get t
    let viewed (n : RunRec) (changed : Bool) (more : List Task) : Ctx × List Task :=
      ({ c with s := { c.s with run := c.s.run.set t n } }, (if changed then [.evaluate t] else []) ++ more)
    (∀ v : Bool, (v = true ↔ b.state = .ready ∧ b.target = none) →
      taskBoatReport t c = viewed { r with boatView := v } (v != r.boatView) [.ignitionTest t]) ∧
    (∀ v : Bool, (v = true ↔ (a.state = .stable ∨ a.state = .lit) ∧ a.inForce = a.runRequest) →
      taskAtmReport t c = viewed { r with gasView := v } (v != r.gasView) []) ∧
    (∀ v : Bool, (c.rampSet.get t = false →
        taskTempReport t v c = viewed { r with tempView := v } (v != r.tempView) []) ∧
      (c.rampSet.get t = true → taskTempReport t v c = (c, []))) ∧
    (∀ st, c.s.currentStep t = some st →
      let met : Prop := match st.endCond with
        | .time => st.duration ≤ r.timer
        | .temp => r.tempView = true
        | .boat => r.boatView = true
        | .gas => r.gasView = true
        | .all => r.tempView = true ∧ r.boatView = true ∧ r.gasView = true
      let judged : Prop := (r.state = .running ∨ r.state = .aborting) ∧ c.busy.get t = false
      (judged → met → taskEvaluate t c = (c, [.stepEnd t])) ∧ (¬ judged ∨ ¬ met → taskEvaluate t c = (c, []))))

/-- ABORT withdraws a waiting change, stops the boat, then takes the tail or ends the run; elsewhere it is refused (R2,
R6, R17, R23, R93, R117, R135). -/
def Obligations.AbortWalksTheTail : Prop :=
  (∀ (s : State) (tag b : Byte) (t : Tube), s.canTake = true → tubeField b = some t →
    (s.runState t ≠ .running → s.runState t ≠ .holding →
      exec (.abort tag b) s = .next (s.replied (.abort b) tag (.no .wrongState 0))) ∧
    (∀ rc st sts, s.runState t = .running ∨ s.runState t = .holding → s.recipeOf t = some rc → rc.tail = st :: sts →
      st.endCond = .time → 1 ≤ st.duration → st.hasGas = false → st.move = none → s.gas.entry? t = none →
      (s.atm.get t).state ≠ .preflow →
      ∃ n, exec (.abort tag b) s = .next n ∧ n.runState t = .aborting ∧
        (n.run.get t).recipe = (s.run.get t).recipe ∧ (n.run.get t).list = .tail ∧ (n.run.get t).step = 1 ∧
        (n.run.get t).timer = 0 ∧ (n.run.get t).mask = st.mask.getD 0 ∧ (n.run.get t).holdHost = false ∧
        (n.run.get t).holdFault = false ∧
        ((s.boat.get t).state = .travel ∨ (s.boat.get t).state = .paused → (n.boat.get t).state = .ready ∧
          (n.boat.get t).target = none ∧ (n.boat.get t).speedCmd = 0 ∧
          (∀ m, (s.boat.get t).measured = some m → (n.boat.get t).pos = some m)) ∧
        n.gas = s.gas ∧ n.atm = s.atm ∧ n.faults = s.faults ∧ n.store = s.store ∧ s.sameTubesBut n t ∧
        s.sameSettings n)) ∧
(∀ (s : State) (tag b : Byte) (t : Tube) (rc : Recipe) (st : Step) (sts : List Step) (e : GasEntry),
    s.canTake = true → tubeField b = some t → s.runState t = .running ∨ s.runState t = .holding →
    s.recipeOf t = some rc → rc.tail = st :: sts → st.endCond = .time → 1 ≤ st.duration → st.hasGas = false →
    st.move = none →
    let a := s.atm.get t
    s.gas.queue = [e] → e.tube = t → a.state = .waitHeader → a.waitOrigin = .stable →
    s.gas.granted.get t = a.inForce → a.cls = classOf a.inForce → a.cls ≠ .steam → (s.boat.get t).state ≠ .waitCond →
    ∃ n, exec (.abort tag b) s = .next n ∧ n.runState t = .aborting ∧ (n.run.get t).list = .tail ∧
      (n.run.get t).step = 1 ∧ n.gas.queue = [] ∧ n.gas.granted = s.gas.granted ∧ n.gas.commands t = a.inForce ∧
      (∀ u, u ≠ t → n.gas.commands u = s.gas.commands u) ∧ (n.atm.get t).state = .stable ∧
      (n.atm.get t).awaited = none ∧ (n.atm.get t).requested = a.inForce ∧ (n.atm.get t).target = a.inForce ∧
      (n.atm.get t).inForce = a.inForce ∧ n.faults = s.faults ∧ n.store = s.store ∧ s.sameTubesBut n t ∧
      s.sameSettings n) ∧
  (∀ (s : State) (tag b : Byte) (t : Tube) (rc : Recipe) (i : Fin 16),
    s.canTake = true → tubeField b = some t → s.runState t = .running ∨ s.runState t = .holding →
    (s.run.get t).recipe = some i → s.store.recipe? i = some rc → rc.tail = [] →
    let a := s.atm.get t
    let cfg := s.tubeConfig t
    let idle : Flows := { n2 := cfg.idleN2, o2 := 0, h2 := 0, aux := 0 }
    a.state = .stable → a.safeHold = false → a.purged = true ∨ a.cls = .inert ∨ a.cls = .oxidizing →
    s.gas.queue = [] → (∀ l, s.gas.grantedSum l (fun u => u ≠ t) + idle.get l ≤ 1000 * s.config.bank.headers.get l) →
    ∃ n, exec (.abort tag b) s = .next n ∧ n.runState t = .idle ∧ (n.run.get t).recipe = none ∧
      (n.run.get t).mask = 0 ∧ (n.run.get t).holdHost = false ∧ (n.run.get t).holdFault = false ∧
      (n.run.get t).params = { rate := cfg.idleRate, band := 0, holdback := 0, lockstep := true } ∧
      n.store.recipe? i = some { rc with inUse := rc.inUse - 1 } ∧
      (∀ j, j ≠ i → n.store.recipe? j = s.store.recipe? j) ∧ (n.atm.get t).state = .stable ∧
      (n.atm.get t).requested = idle ∧ (n.atm.get t).inForce = idle ∧ n.gas.queue = [] ∧
      n.gas.granted.get t = idle ∧ n.gas.commands t = idle ∧
      (∀ u, u ≠ t → n.gas.granted.get u = s.gas.granted.get u ∧ n.gas.commands u = s.gas.commands u) ∧
      ((s.boat.get t).state = .travel ∨ (s.boat.get t).state = .paused → (n.boat.get t).state = .ready) ∧
      n.faults = s.faults ∧ s.sameTubesBut n t ∧ s.sameSettings n)

/-- SAFE_STOP stops ramps, gas and boat at once and ends the run (R25, R96, R118, R135). -/
def Obligations.SafeStopTakesTheTubeToSafe : Prop :=
  ∀ (s : State) (tag b : Byte) (t : Tube), s.canTake = true → tubeField b = some t →
    (s.runState t = .offline ∨ s.runState t = .safe →
      exec (.safeStop tag b) s = .next (s.replied (.safeStop b) tag (.no .wrongState 0))) ∧
    (s.runState t ≠ .offline → s.runState t ≠ .safe → (∀ e ∈ s.gas.queue, e.tube = t) →
      ∃ n, exec (.safeStop tag b) s = .next n ∧ n.runState t = .safe ∧ (n.run.get t).recipe = none ∧
        (n.run.get t).mask = 0 ∧ (n.run.get t).holdHost = false ∧ (n.run.get t).holdFault = false ∧
        n.gas.commands t = { n2 := (s.tubeConfig t).safetyN2, o2 := 0, h2 := 0, aux := 0 } ∧
        n.gas.granted.get t = { n2 := 0, o2 := 0, h2 := 0, aux := 0 } ∧ n.gas.safety.get t = true ∧
        n.gas.entry? t = none ∧ (n.atm.get t).state = .safeFlow ∧ (n.atm.get t).safeHold = true ∧
        (n.atm.get t).igniter = false ∧
        (∀ z : Zone, z.number ≤ (s.tubeConfig t).activeZones → ((n.thermal.get t).zones.get z).complete = true ∧
          ((n.thermal.get t).zones.get z).target = ((s.thermal.get t).zones.get z).setpoint) ∧
        ((s.boat.get t).state = .travel ∨ (s.boat.get t).state = .paused →
          (n.boat.get t).state = .ready ∧ (n.boat.get t).speedCmd = 0) ∧
        (∀ i r, (s.run.get t).recipe = some i → s.store.recipe? i = some r →
          n.store.recipe? i = some { r with inUse := r.inUse - 1 }) ∧
        n.faults = s.faults ∧ s.sameSettings n)

/-- RECOVER is refused in the order of its checks, or returns the tube to IDLE (R6, R26, R118, R131). -/
def Obligations.RecoverChecksAndReturnsToIdle : Prop :=
  ∀ (s : State) (tag b : Byte) (t : Tube), s.canTake = true → tubeField b = some t →
    (s.runState t ≠ .safe → exec (.recover tag b) s = .next (s.replied (.recover b) tag (.no .wrongState 0))) ∧
    (s.runState t = .safe → s.recoverBlocked t = true →
      exec (.recover tag b) s = .next (s.replied (.recover b) tag (.no .conditionPresent 0))) ∧
    (s.runState t = .safe → s.recoverBlocked t = false → s.faults.anySafe t = true →
      exec (.recover tag b) s = .next (s.replied (.recover b) tag (.no .faultPending 0))) ∧
    (s.runState t = .safe → s.recoverBlocked t = false → s.faults.anySafe t = false → s.gas.queue = [] →
      ∃ n, exec (.recover tag b) s = .next n ∧ n.runState t = .idle ∧ (n.run.get t).mask = 0 ∧
        (n.run.get t).params = { rate := (s.tubeConfig t).idleRate, band := 0, holdback := 0, lockstep := true } ∧
        (n.thermal.get t).inhibit = (if (s.tubeConfig t).idleTemp = 0 then .idle else .clear) ∧
        (n.atm.get t).safeHold = false ∧
        ((s.boat.get t).state = .stalled → (n.boat.get t).state = .ready) ∧
        n.faults = s.faults ∧ s.sameSettings n)

/-- The end of a run gives its notices in order, frees the recipe, and idle behaviour follows (a set inhibit stands:
log entry 14) (R6, R7, R17, R18). -/
def Obligations.RunEndsAndIdleBehaviourFollows : Prop :=
  ((∀ (c : Ctx) (t : Tube) (res : RunResult) (k : Cause) (i : Fin 16) (r : Recipe),
    (c.s.run.get t).recipe = some i → c.s.store.recipe? i = some r →
    let e := taskEndRun t res k c
    e.2 = [.idle t] ∧ e.1.s.runState t = .idle ∧ (e.1.s.run.get t).recipe = none ∧
      (e.1.s.run.get t).holdHost = false ∧ (e.1.s.run.get t).holdFault = false ∧
      e.1.s.store.recipe? i = some { r with inUse := r.inUse - 1 } ∧
      (c.serving = true → c.s.link.lost = false → c.s.link.notices.length ≤ 30 →
        c.s.link.enables = { stepEntered := true, runEnded := true, faultActed := true, tubeState := true } →
        e.1.s.link.notices = c.s.link.notices ++
          [{ lost := false, notice := .runEnded t (i.val + 1) res (c.s.run.get t).list (c.s.run.get t).step
              (c.s.run.get t).startStamp c.s.stamp },
           { lost := false, notice := .tubeState t .idle (c.s.runState t) k c.s.stamp }])) ∧
    (∀ (c : Ctx) (t : Tube),
    let e := taskIdle t c
    let cfg := c.s.tubeConfig t
    e.2 = [.gasRequest t { n2 := some cfg.idleN2, o2 := some 0, h2 := some 0, aux := some 0 }] ∧
      e.1.s.run.get t = { c.s.run.get t with mask := 0, params :=
        { rate := cfg.idleRate, band := 0, holdback := 0, lockstep := true } } ∧
      (e.1.s.thermal.get t).params = { rate := cfg.idleRate, band := 0, holdback := 0, lockstep := true } ∧
      e.1.s.boat = c.s.boat ∧ e.1.s.faults = c.s.faults ∧ e.1.s.store = c.s.store ∧ e.1.s.gas = c.s.gas ∧
      (cfg.idleTemp ≠ 0 → (e.1.s.thermal.get t).inhibit = (c.s.thermal.get t).inhibit ∧
        ∀ z : Zone, z.number ≤ cfg.activeZones →
          ((e.1.s.thermal.get t).zones.get z).target = cfg.idleTemp * 100 ∧
          ((e.1.s.thermal.get t).zones.get z).origin = ((c.s.thermal.get t).zones.get z).setpoint ∧
          ((e.1.s.thermal.get t).zones.get z).setpoint = ((c.s.thermal.get t).zones.get z).setpoint) ∧
      (cfg.idleTemp = 0 → (e.1.s.thermal.get t).inhibit =
          (if (c.s.thermal.get t).inhibit = .clear then .idle else (c.s.thermal.get t).inhibit) ∧
        ∀ z : Zone, z.number ≤ cfg.activeZones →
          ((e.1.s.thermal.get t).zones.get z).demand = 0 ∧ (e.1.s.alloc.zone t z).firing = 0))) ∧
(∀ (s : State) (t : Tube) (i : Fin 16) (rc : Recipe) (cur : Step), s.inReset = false →
    s.runState t = .running ∨ s.runState t = .aborting → (s.run.get t).recipe = some i →
    s.store.recipe? i = some rc → s.currentStep t = some cur → cur.endCond = .time →
    cur.duration ≤ (s.run.get t).timer → rc.step? (s.run.get t).list ((s.run.get t).step + 1) = none →
    let r := s.run.get t
    let a := s.atm.get t
    let cfg := s.tubeConfig t
    let idle : Flows := { n2 := cfg.idleN2, o2 := 0, h2 := 0, aux := 0 }
    a.state = .stable → a.safeHold = false → a.purged = true ∨ a.cls = .inert ∨ a.cls = .oxidizing →
    s.gas.queue = [] → (∀ l, s.gas.grantedSum l (fun u => u ≠ t) + idle.get l ≤ 1000 * s.config.bank.headers.get l) →
    ∃ n, exec (.stepTimeElapsed t) s = .next n ∧ n.runState t = .idle ∧ (n.run.get t).recipe = none ∧
      (n.run.get t).mask = 0 ∧
      (n.run.get t).params = { rate := cfg.idleRate, band := 0, holdback := 0, lockstep := true } ∧
      n.store.recipe? i = some { rc with inUse := rc.inUse - 1 } ∧
      (∀ j, j ≠ i → n.store.recipe? j = s.store.recipe? j) ∧ (n.atm.get t).state = .stable ∧
      (n.atm.get t).inForce = idle ∧ n.gas.granted.get t = idle ∧ n.gas.commands t = idle ∧
      (∀ u, u ≠ t → n.gas.granted.get u = s.gas.granted.get u ∧ n.gas.commands u = s.gas.commands u) ∧
      n.boat = s.boat ∧ n.faults = s.faults ∧ s.sameTubesBut n t ∧ s.sameSettings n ∧
      (s.link.tx.isSome = true → s.link.lost = false → s.link.notices.length ≤ 30 →
        s.link.enables = { stepEntered := true, runEnded := true, faultActed := true, tubeState := true } →
        n.link = { s.link with notices := s.link.notices ++
          [{ lost := false, notice := .runEnded t (i.val + 1) (if r.list = .main then .completed else .aborted)
              r.list r.step r.startStamp s.stamp },
           { lost := false, notice := .tubeState t .idle r.state .listEnd s.stamp }] }))

/-- The run controller takes each fault action by its state (an action that R27 does not apply, and OFFLINE: log entry
24) (R27). -/
def Obligations.FaultActionFollowsItsTable : Prop :=
  (∀ (c : Ctx) (t : Tube) (k : FaultKind),
    let rs := c.s.runState t
    (rs = .running → taskAction t .hold k c =
      (c.put (c.s.setRun t { c.s.run.get t with holdFault := true }), [.enterHolding t (.fault k)])) ∧
    (rs = .holding → taskAction t .hold k c =
      (c.put (c.s.setRun t { c.s.run.get t with holdFault := true }), [])) ∧
    (rs = .running ∨ rs = .holding → taskAction t .abort k c = (c, [.abort t (.fault k)])) ∧
    (rs = .aborting → taskAction t .abort k c = (c, [.enterSafe t (.fault k)]) ∧
      taskAction t .escalated k c = (c, [.enterSafe t (.fault k)])) ∧
    (rs = .running ∨ rs = .holding ∨ rs = .aborting ∨ rs = .idle →
      taskAction t .safe k c = (c, [.enterSafe t (.fault k)])) ∧
    (rs = .aborting ∨ rs = .idle ∨ rs = .safe ∨ rs = .offline → taskAction t .hold k c = (c, [])) ∧
    (rs = .idle ∨ rs = .safe ∨ rs = .offline → taskAction t .abort k c = (c, [])) ∧
    (rs = .safe ∨ rs = .offline → taskAction t .safe k c = (c, []))) ∧
(∀ (c : Ctx) (t : Tube) (k : FaultKind),
    (c.s.runState t = .running ∨ c.s.runState t = .holding →
      taskAction t .escalated k c = (c, [.abort t (.fault k)])) ∧
    (c.s.runState t = .idle ∨ c.s.runState t = .safe ∨ c.s.runState t = .offline →
      taskAction t .escalated k c = (c, [])))

/-- RECIPE_OPEN is refused in its order, or opens the load and reserves every declared record (index 0 of OCCUPIED: log
entry 39) (R31, R34, R35). -/
def Obligations.RecipeOpenReservesTheDeclaredRecords : Prop :=
  (∀ (s : State) (tag x owner res zones main tail : Byte) (name : List Byte) (i : Fin 16) (b : Bool),
    s.canTake = true → slotField x = some i → 1 ≤ name.length → name.length ≤ 16 →
    (∀ c ∈ name, 0x20 ≤ c.toNat ∧ c.toNat ≤ 0x7E) → res = (if b then 1 else 0) → 3 ≤ zones.toNat → zones.toNat ≤ 5 →
    1 ≤ main.toNat → main.toNat ≤ 48 → tail.toNat ≤ 8 →
    let req := Request.recipeOpen x name owner res zones main tail
    let total := main.toNat + tail.toNat
    (s.store.load ≠ none → exec (.recipeOpen tag x name owner res zones main tail) s =
      .next (s.replied req tag (.no .loadOpen 0))) ∧
    (s.store.load = none → s.store.recipe? i ≠ none → exec (.recipeOpen tag x name owner res zones main tail) s =
      .next (s.replied req tag (.no .occupied 0))) ∧
    (s.store.load = none → s.store.recipe? i = none → 384 - s.store.reserved < total →
      exec (.recipeOpen tag x name owner res zones main tail) s = .next (s.replied req tag (.no .storeFull 0))) ∧
    (s.store.load = none → s.store.recipe? i = none → total ≤ 384 - s.store.reserved →
      exec (.recipeOpen tag x name owner res zones main tail) s = .next (State.replied
        { s with store :=
          { s.store.setSlot i (some
              { closed := false, name := name, owner := owner.toNat, resident := b, zoneCount := zones.toNat,
                mainCount := main.toNat, tailCount := tail.toNat, main := [], tail := [], inUse := 0 }) with
            reserved := s.store.reserved + total
            load := some { slot := i, mainCount := main.toNat, tailCount := tail.toNat, next := .step .main 1,
                           storedMain := 0, storedTail := 0 } } }
        req tag (.one (u8 (i.val + 1) ++ u8 total ++ u16 (384 - (s.store.reserved + total))))))) ∧
(∀ (s : State) (tag x owner res zones main tail : Byte) (name : List Byte), s.canTake = true →
    wellFormed (.recipeOpen tag x name owner res zones main tail) = true → x.toNat = 0 ∨ 16 < x.toNat →
    exec (.recipeOpen tag x name owner res zones main tail) s =
      .next (s.replied (.recipeOpen x name owner res zones main tail) tag (.no .badField 1)))

/-- A step record passes its checks exactly if every field present lies in its range (R32, R37). -/
def Obligations.StepRecordPassesExactlyInRange : Prop :=
  ∀ (zones : Nat) (r : RawStep), ((stepChecks zones r).find? fun k => !k.2.2) = none ↔
    (∃ b, r.endCond = some b ∧ b.toNat ≤ 4) ∧ (∃ d, r.duration = some d ∧ 1 ≤ d.toNat) ∧
    (∀ l, r.targets = some l → l.length = zones ∧ ∀ h ∈ l, 2000 ≤ h.toNat ∧ h.toNat ≤ 12500) ∧
    (∀ b, r.rate = some b → 1 ≤ b.toNat ∧ b.toNat ≤ 200) ∧
    (∀ h, r.band = some h → h.toNat = 0 ∨ 5 ≤ h.toNat ∧ h.toNat ≤ 500) ∧
    (∀ b, r.lockstep = some b → b.toNat ≤ 1) ∧ (∀ h, r.n2 = some h → h.toNat ≤ 50000) ∧
    (∀ h, r.o2 = some h → h.toNat ≤ 30000) ∧ (∀ h, r.h2 = some h → h.toNat ≤ 20000) ∧
    (∀ h, r.aux = some h → h.toNat ≤ 5000) ∧
    (∀ m, r.move = some m → m.1.toNat ≤ 24000 ∧ 10 ≤ m.2.toNat ∧ m.2.toNat ≤ 600) ∧
    (∀ b, r.bank = some b → b.toNat ≤ 7) ∧ (∀ b, r.mask = some b → b.toNat ≤ 6)

/-- RECIPE_STEP is stored only at the expected position and in range (a list byte that is neither list: log entry 25)
(R32, R36, R37, R38). -/
def Obligations.RecipeStepIsStoredInOrder : Prop :=
  (∀ (s : State) (tag l x : Byte) (r : RawStep), s.canTake = true → wellFormed (.recipeStep tag l x r) = true →
    (s.store.load = none → exec (.recipeStep tag l x r) s =
      .next (s.replied (.recipeStep l x r) tag (.no .wrongState 0))) ∧
    (∀ c rc, s.store.load = some c → s.store.recipe? c.slot = some rc →
      ((∀ ls, ListSel.ofCode l.toNat = some ls → c.next ≠ .step ls x.toNat) → exec (.recipeStep tag l x r) s =
        .next (s.replied (.recipeStep l x r) tag (.no .badSequence 0))) ∧
      (∀ ls, ListSel.ofCode l.toNat = some ls → c.next = .step ls x.toNat →
        (∀ k, ((stepChecks rc.zoneCount r).find? fun k => !k.2.2) = some k → exec (.recipeStep tag l x r) s =
          .next (s.replied (.recipeStep l x r) tag (.no k.1 k.2.1))) ∧
        (((stepChecks rc.zoneCount r).find? fun k => !k.2.2) = none →
          let stored : Step :=
            { endCond := if r.endCond = some 1 then .temp else if r.endCond = some 2 then .boat
                else if r.endCond = some 3 then .gas else if r.endCond = some 4 then .all else .time
              duration := (r.duration.map BitVec.toNat).getD 0
              targets := r.targets.map fun l => l.map BitVec.toNat
              rate := r.rate.map BitVec.toNat, band := r.band.map BitVec.toNat
              holdback := r.holdback.map BitVec.toNat, lockstep := r.lockstep.map fun y => y = 1
              flows := { n2 := r.n2.map BitVec.toNat, o2 := r.o2.map BitVec.toNat, h2 := r.h2.map BitVec.toNat,
                         aux := r.aux.map BitVec.toNat }
              move := r.move.map fun m => (m.1.toNat, m.2.toNat)
              bank := r.bank.map fun y => Fin.ofNat 8 y.toNat
              mask := r.mask.map BitVec.toNat }
          ∃ n c', exec (.recipeStep tag l x r) s = .next n ∧ n = { s with store := n.store, link := n.link } ∧
            n.store.recipe? c.slot = some (match ls with
              | .main => { rc with main := rc.main ++ [stored] }
              | .tail => { rc with tail := rc.tail ++ [stored] }) ∧ n.store.reserved = s.store.reserved ∧
            (∀ j, j ≠ c.slot → n.store.recipe? j = s.store.recipe? j) ∧ n.store.load = some c' ∧
            c'.slot = c.slot ∧ c'.storedMain = c.storedMain + (if ls = .main then 1 else 0) ∧
            c'.storedTail = c.storedTail + (if ls = .tail then 1 else 0) ∧
            c'.next = (match ls with
              | .main => if x.toNat < c.mainCount then .step .main (x.toNat + 1)
                         else if 0 < c.tailCount then .step .tail 1 else .complete
              | .tail => if x.toNat < c.tailCount then .step .tail (x.toNat + 1) else .complete))))) ∧
(∀ (s : State) (tag l x : Byte) (r : RawStep) (c : LoadCtx) (rc : Recipe) (ls : ListSel) (n : Nat),
    s.canTake = true → wellFormed (.recipeStep tag l x r) = true → s.store.load = some c →
    s.store.recipe? c.slot = some rc → ListSel.ofCode l.toNat = some ls → c.next = .step ls x.toNat →
    let sized : Prop := ∀ ts, r.targets = some ts → ts.length = rc.zoneCount
    let inRange : Nat → Prop := fun k => match k with
      | 1 => ∃ b, r.endCond = some b ∧ b.toNat ≤ 4
      | 2 => ∃ d, r.duration = some d ∧ 1 ≤ d.toNat
      | 3 => sized ∧ ∀ ts, r.targets = some ts → ∀ h ∈ ts, 2000 ≤ h.toNat ∧ h.toNat ≤ 12500
      | 4 => ∀ b, r.rate = some b → 1 ≤ b.toNat ∧ b.toNat ≤ 200
      | 5 => ∀ h, r.band = some h → h.toNat = 0 ∨ 5 ≤ h.toNat ∧ h.toNat ≤ 500
      | 7 => ∀ b, r.lockstep = some b → b.toNat ≤ 1
      | 8 => ∀ h, r.n2 = some h → h.toNat ≤ 50000
      | 9 => ∀ h, r.o2 = some h → h.toNat ≤ 30000
      | 10 => ∀ h, r.h2 = some h → h.toNat ≤ 20000
      | 11 => ∀ h, r.aux = some h → h.toNat ≤ 5000
      | 12 => ∀ m, r.move = some m → m.1.toNat ≤ 24000
      | 13 => ∀ m, r.move = some m → 10 ≤ m.2.toNat ∧ m.2.toNat ≤ 600
      | 14 => ∀ b, r.bank = some b → b.toNat ≤ 7
      | 15 => ∀ b, r.mask = some b → b.toNat ≤ 6
      | _ => True
    let refused (reason : Reason) : Prop := exec (.recipeStep tag l x r) s =
      .next (s.replied (.recipeStep l x r) tag (.no reason n))
    (∀ k < n, inRange k) → ¬ inRange n →
    (n = 3 → ¬ sized → refused .mismatch) ∧ (n ≠ 3 ∨ sized → refused .badField))

/-- RECIPE_CLOSE and RECIPE_CANCEL end a load; the drops empty only closed slots that no tube runs (index 0, count
byte: log entries 39, 7) (R39, R40, R42, R43). -/
def Obligations.LoadsEndAndIdleRecipesDrop : Prop :=
  (∀ (s : State) (tag : Byte), s.canTake = true →
    (s.store.load = none →
      exec (.recipeClose tag) s = .next (s.replied .recipeClose tag (.no .wrongState 0)) ∧
      exec (.recipeCancel tag) s = .next (s.replied .recipeCancel tag (.no .wrongState 0))) ∧
    (∀ c r, s.store.load = some c → s.store.recipe? c.slot = some r →
      (c.next ≠ .complete → exec (.recipeClose tag) s = .next (s.replied .recipeClose tag (.no .incomplete 0))) ∧
      (c.next = .complete → exec (.recipeClose tag) s = .next (State.replied
        { s with store :=
          { s.store.setSlot c.slot (some { r with closed := true, inUse := 0 }) with load := none } }
        .recipeClose tag (.one (u8 (c.slot.val + 1) ++ u8 r.mainCount ++ u8 r.tailCount ++
          u16 (384 - s.store.reserved))))) ∧
      exec (.recipeCancel tag) s = .next (State.replied
        { s with store :=
          { s.store.setSlot c.slot none with
            reserved := s.store.reserved - (r.mainCount + r.tailCount), load := none } }
        .recipeCancel tag (.one (u8 (c.slot.val + 1) ++
          u16 (384 - (s.store.reserved - (r.mainCount + r.tailCount))))))) ∧
    (∀ x i, slotField x = some i →
      (s.store.recipe? i = none →
        exec (.recipeDrop tag x) s = .next (s.replied (.recipeDrop x) tag (.no .noSuchRecipe 0))) ∧
      (∀ r, s.store.recipe? i = some r →
        (r.closed = false → exec (.recipeDrop tag x) s = .next (s.replied (.recipeDrop x) tag (.no .loadOpen 0))) ∧
        (r.closed = true → r.inUse ≠ 0 →
          exec (.recipeDrop tag x) s = .next (s.replied (.recipeDrop x) tag (.no .inUse 0))) ∧
        (r.closed = true → r.inUse = 0 → exec (.recipeDrop tag x) s = .next (State.replied
          { s with store :=
            { s.store.setSlot i none with reserved := s.store.reserved - (r.mainCount + r.tailCount) } }
          (.recipeDrop x) tag (.one (u8 (i.val + 1) ++ u8 (r.mainCount + r.tailCount) ++
            u16 (384 - (s.store.reserved - (r.mainCount + r.tailCount)))))))) ) ∧
    (∀ owner : Byte, ∃ n, exec (.recipeDropOwner tag owner) s = .next n ∧
      n = { s with store := n.store, link := n.link } ∧ n.store.load = s.store.load ∧
      (∀ i r, s.store.recipe? i = some r → r.closed = true → r.owner = owner.toNat → r.resident = false →
        r.inUse = 0 → n.store.recipe? i = none) ∧
      (∀ i r, s.store.recipe? i = some r →
        (r.closed = false ∨ r.owner ≠ owner.toNat ∨ r.resident = true ∨ r.inUse ≠ 0) →
        n.store.recipe? i = some r) ∧
      (∀ i, s.store.recipe? i = none → n.store.recipe? i = none))) ∧
(∀ (s : State) (tag x : Byte), s.canTake = true → x.toNat = 0 ∨ 16 < x.toNat →
    exec (.recipeDrop tag x) s = .next (s.replied (.recipeDrop x) tag (.no .badField 1)))

/-- Every step keeps the recipe references, the in-use counts and the pool’s account (R1, R5, R31, R33, R41). -/
def Obligations.RecipesAndRunsStaySound : Prop :=
  ∀ s n : State, s.runsSound → s.storeSound → step s = .next n → n.runsSound ∧ n.storeSound

/-- A ramp that advances moves by (A + 100 × r) div 60 toward its target and keeps the remainder (R53). -/
def Obligations.RampAdvanceIsExact : Prop :=
  (∀ (z : ZoneRec) (r : Nat),
      (Sys2Proof.dist z.target z.setpoint ≤ (z.remainder + 100 * r) / 60 →
        z.advance r = { z with setpoint := z.target, complete := true, remainder := 0 }) ∧
      (¬ Sys2Proof.dist z.target z.setpoint ≤ (z.remainder + 100 * r) / 60 →
        (z.setpoint < z.target → z.advance r =
          { z with setpoint := z.setpoint + (z.remainder + 100 * r) / 60,
                   remainder := (z.remainder + 100 * r) % 60 }) ∧
        (z.target < z.setpoint → z.advance r =
          { z with setpoint := z.setpoint - (z.remainder + 100 * r) / 60,
                   remainder := (z.remainder + 100 * r) % 60 }))) ∧
    (∀ a, a < 60 → ((a + 100 * 200) / 60 = 333 ∨ (a + 100 * 200) / 60 = 334) ∧
      ((a + 100 * 1) / 60 = 1 ∨ (a + 100 * 1) / 60 = 2)) ∧
    (∀ (r : ThermalRec) (n : Nat) (starved : Zone → Bool) (z : Zone), r.advances n starved z = false →
      ((r.advanceRamps n starved).zones.get z).setpoint = (r.zones.get z).setpoint ∧
      ((r.advanceRamps n starved).zones.get z).remainder = (r.zones.get z).remainder)

/-- The PI demand lies within the output limit and the integral does not wind up (R61, R62). -/
def Obligations.DemandStaysWithinTheOutputLimit : Prop :=
  (∀ (k : Tuning) (e : Int) (i : Nat),
      let u : Int := Int.tdiv (k.kp * e) 100 + Int.tdiv (i + k.ki * e) 1000
      piDemand k e i ≤ k.lmax ∧ (0 ≤ u → u ≤ k.lmax → (piDemand k e i : Int) = u) ∧ (u < 0 → piDemand k e i = 0) ∧
      ((k.lmax : Int) < u → piDemand k e i = k.lmax) ∧
      ((k.lmax : Int) < u ∧ 0 < e ∨ u < 0 ∧ e < 0 → piIntegral k e i = i) ∧
      (¬ ((k.lmax : Int) < u ∧ 0 < e ∨ u < 0 ∧ e < 0) → piIntegral k e i ≤ k.lmax * 1000 ∧
        (0 ≤ (i : Int) + k.ki * e → (i : Int) + k.ki * e ≤ k.lmax * 1000 → (piIntegral k e i : Int) = i + k.ki * e) ∧
        ((k.lmax : Int) * 1000 < (i : Int) + k.ki * e → piIntegral k e i = k.lmax * 1000) ∧
        ((i : Int) + k.ki * e < 0 → piIntegral k e i = 0))) ∧
    (∀ sp pv : Nat, -10000 ≤ piError sp pv ∧ piError sp pv ≤ 10000 ∧
      (sp ≤ pv + 10000 → pv ≤ sp + 10000 → piError sp pv = (sp : Int) - pv) ∧
      (pv + 10000 < sp → piError sp pv = 10000) ∧ (sp + 10000 < pv → piError sp pv = -10000))

/-- THERMAL_TICK advances ramps, counts, controls, judges and reports (order of reports: log entries 16, 41); in
OFFLINE it changes nothing (R14, R53, R54, R55, R57, R58, R59, R60, R61, R62, R63, R64). -/
def Obligations.ThermalTickMovesEligibleRamps : Prop :=
  ∀ (s : State) (t : Tube), s.inReset = false →
    let th := s.thermal.get t
    let cfg := s.tubeConfig t
    let old (z : Zone) := th.zones.get z
    let mayMove : Prop :=
      (th.runState = .running ∨ th.runState = .aborting ∨ th.runState = .idle) ∧ th.inhibit = .clear
    let eligible (z : Zone) : Prop := mayMove ∧
      (th.params.band = 0 ∨ ∃ v, (old z).profile = .temp v ∧
        Sys2Proof.dist (((old z).setpoint + 50) / 100) v ≤ th.params.band) ∧
      (s.alloc.zone t z).starved = false
    let moves (z : Zone) : Prop := (old z).complete = false ∧
      (if th.params.lockstep = true then
        ∀ y : Zone, y.number ≤ cfg.activeZones → (old y).complete = false → eligible y
       else eligible z)
    (th.runState = .offline → exec (.thermalTick t) s = .next s) ∧
    (th.runState ≠ .offline → (∃ n, exec (.thermalTick t) s = .next n ∧
      ∀ z : Zone, z.number ≤ cfg.activeZones →
        (moves z → ((n.thermal.get t).zones.get z).setpoint = ((old z).advance th.params.rate).setpoint) ∧
        (¬ moves z → ((n.thermal.get t).zones.get z).setpoint = (old z).setpoint) ∧
        ((n.thermal.get t).zones.get z).profile = (old z).profile ∧
        ((n.thermal.get t).zones.get z).spike = (old z).spike) ∧
      exec (.thermalTick t) s = .next (s.event (thermalTickStart t)) ∧
      let e := thermalTickStart t (Ctx.start s false)
      let n := e.1.s
      let new (z : Zone) := (n.thermal.get t).zones.get z
      let sp (z : Zone) := ((new z).setpoint + 50) / 100
      let held : Prop := mayMove ∧ ∃ z : Zone, z.number ≤ cfg.activeZones ∧ (old z).complete = false ∧ ¬ moves z
      n = { s with thermal := n.thermal, alloc := { s.alloc with zones := n.alloc.zones } } ∧
      (∀ u, u ≠ t → n.thermal.get u = s.thermal.get u ∧ ∀ z, n.alloc.zone u z = s.alloc.zone u z) ∧
      n.thermal.get t = { th with zones := (n.thermal.get t).zones, counter := (n.thermal.get t).counter,
                                  stalled := (n.thermal.get t).stalled } ∧
      (held → (n.thermal.get t).counter = min 65535 (th.counter + 1)) ∧
      (¬ held → (n.thermal.get t).counter = th.counter) ∧
      ((n.thermal.get t).stalled = true ↔
        th.stalled = true ∧ th.params.holdback ≠ 0 ∧ th.params.holdback < (n.thermal.get t).counter) ∧
      (∀ z : Zone, cfg.activeZones < z.number → new z = old z ∧ n.alloc.zone t z = s.alloc.zone t z) ∧
      (∀ z : Zone, z.number ≤ cfg.activeZones →
        let adv := (old z).advance th.params.rate
        new z = { old z with
          setpoint := (new z).setpoint, remainder := (new z).remainder, complete := (new z).complete,
          demand := (new z).demand, integral := (new z).integral, deviation := (new z).deviation } ∧
        (moves z → (new z).setpoint = adv.setpoint ∧ (new z).remainder = adv.remainder ∧
          (new z).complete = adv.complete) ∧
        (¬ moves z → (new z).setpoint = (old z).setpoint ∧ (new z).remainder = (old z).remainder ∧
          (new z).complete = (old z).complete) ∧
        (∀ v, (old z).profile = .temp v → th.inhibit = .clear →
          let err : Int := max (-10000) (min 10000 ((sp z : Int) - v))
          (new z).demand = piDemand (s.tuning t z) err (old z).integral ∧
          (new z).integral = piIntegral (s.tuning t z) err (old z).integral) ∧
        ((∀ v, (old z).profile ≠ .temp v) ∨ th.inhibit ≠ .clear →
          (new z).demand = 0 ∧ (new z).integral = (old z).integral) ∧
        n.alloc.zone t z =
          { s.alloc.zone t z with firing := min (s.alloc.zone t z).firing (new z).demand } ∧
        ((new z).deviation = true ↔ (th.runState = .running ∨ th.runState = .holding) ∧ (new z).complete = true ∧
          ∃ v, (old z).profile = .temp v ∧ cfg.deviationBand < Sys2Proof.dist (sp z) v)) ∧
      ∃ met : Bool,
        (met = true ↔ ∀ z : Zone, z.number ≤ cfg.activeZones → (new z).complete = true ∧
          ∃ v, (old z).profile = .temp v ∧
            Sys2Proof.dist (sp z) v ≤ (if th.params.band = 0 then 20 else th.params.band)) ∧
        e.2 = [.rampStalled t] ++
          ((activeZones cfg.activeZones).flatMap fun z =>
            if (new z).deviation = true ∧ (old z).deviation = false then
              [.detect (detection t .deviation (some z.number)
                (match (old z).profile with
                  | .temp v => some (Sys2Proof.dist (sp z) v)
                  | _ => none) (some cfg.deviationBand))]
            else []) ++ [.tempReport t met])

/-- SAMPLE_ARRIVAL writes the sample, shuts a zone whose profile sample opens, and brings the three conditions up to
date (reports: log entries 18, 45) (R48, R49, R50, R51, R63, R81). -/
def Obligations.SampleArrivalIsWrittenAndJudged : Prop :=
  (∀ (s : State) (t : Tube) (z : Zone) (tc : Thermocouple) (v : Reading), s.inReset = false →
    let written : Sample := match v with
      | .isOpen => .isOpen
      | .temp x => .temp (min 14000 x)
    let th := s.thermal.get t
    let old := th.zones.get z
    let p := if tc = .profile then written else old.profile
    let q := if tc = .spike then written else old.spike
    let shut : Bool := decide (tc = .profile ∧ v = .isOpen)
    let arrived : State := { s with
      thermal := s.thermal.set t { th with
        zones := th.zones.set z { old with profile := p, spike := q, demand := if shut then 0 else old.demand } }
      alloc := if shut then
          { s.alloc with zones := s.alloc.zones.set t ((s.alloc.zones.get t).set z
              { (s.alloc.zones.get t).get z with firing := 0 }) }
        else s.alloc }
    ((s.tubeConfig t).activeZones < z.number → exec (.sampleArrival t z tc v) s = .next s) ∧
    (z.number ≤ (s.tubeConfig t).activeZones → th.runState = .offline →
      exec (.sampleArrival t z tc v) s = .next arrived) ∧
    (z.number ≤ (s.tubeConfig t).activeZones → th.runState ≠ .offline →
      ∃ n, exec (.sampleArrival t z tc v) s = .next n ∧ n = arrived.eventOf [.judgeSamples t z] ∧
      let new := (n.thermal.get t).zones.get z
      new.profile = p ∧ new.spike = q ∧ (shut = true → new.demand = 0) ∧
      (new.tcOpen = true ↔ p = .isOpen ∨ q = .isOpen) ∧
      (new.overtemp = true ↔ (∃ x, p = .temp x ∧ (s.tubeConfig t).maxTemp < x) ∨
        (∃ x, q = .temp x ∧ (s.tubeConfig t).elementLimit < x)) ∧
      (new.disagree = true ↔ ∃ x y, p = .temp x ∧ q = .temp y ∧ 4000 < x ∧
        (s.tubeConfig t).disagreeLimit < Sys2Proof.dist x y) ∧
      (∀ u y, u ≠ t ∨ y ≠ z →
        ((n.thermal.get u).zones.get y).profile = ((s.thermal.get u).zones.get y).profile ∧
        ((n.thermal.get u).zones.get y).spike = ((s.thermal.get u).zones.get y).spike))) ∧
(∀ (c : Ctx) (t : Tube) (z : Zone),
    let cfg := c.s.tubeConfig t
    let th := c.s.thermal.get t
    let old := th.zones.get z
    let above (x : Sample) (m : Nat) : Bool := match x with
      | .temp v => decide (m < v)
      | _ => false
    let value : Sample → Option Nat := fun x => match x with
      | .temp v => some v
      | _ => none
    let apart : Option Nat := match old.profile, old.spike with
      | .temp x, .temp y => some (Sys2Proof.dist x y)
      | _, _ => none
    let opened : Bool := decide (old.profile = .isOpen ∨ old.spike = .isOpen)
    let hot := above old.profile cfg.maxTemp || above old.spike cfg.elementLimit
    let differ := above old.profile 4000 && decide (∃ d ∈ apart, cfg.disagreeLimit < d)
    let report (new was : Bool) (k : FaultKind) (measured limit : Option Nat) : List Task :=
      if new && !was then [.detect (detection t k (some z.number) measured limit)] else []
    taskJudgeSamples t z c =
      (c.put { c.s with thermal := c.s.thermal.set t { th with
          zones := th.zones.set z { old with tcOpen := opened, overtemp := hot, disagree := differ } } },
        report opened old.tcOpen .tcOpen none none ++
        (if above old.profile cfg.maxTemp then report hot old.overtemp .overtemp (value old.profile) (some cfg.maxTemp)
          else report hot old.overtemp .overtemp (value old.spike) (some cfg.elementLimit)) ++
        report differ old.disagree .tcDisagree apart (some cfg.disagreeLimit)))

/-- LOAD_TUNING is refused at its first field out of range, or writes all fifteen constants and lowers the demands
above a lowered limit (R66, R67, R68). -/
def Obligations.LoadTuningWritesTheBankAndLimits : Prop :=
  (∀ (s : State) (tag x : Byte) (e1 e2 e3 e4 e5 : TuningFields), s.canTake = true →
    (8 ≤ x.toNat → exec (.loadTuning tag x e1 e2 e3 e4 e5) s =
      .next (s.replied (.loadTuning x e1 e2 e3 e4 e5) tag (.no .badField 1))) ∧
    (∀ b, bankOf x.toNat = some b →
      (∀ e ∈ [e1, e2, e3, e4, e5], e.kp.toNat ≤ 9999 ∧ e.ki.toNat ≤ 9999 ∧ e.lmax.toNat ≤ 1000) →
      ∃ n, exec (.loadTuning tag x e1 e2 e3 e4 e5) s = .next n ∧
        n.banks[b] = { z1 := ⟨e1.kp.toNat, e1.ki.toNat, e1.lmax.toNat⟩, z2 := ⟨e2.kp.toNat, e2.ki.toNat, e2.lmax.toNat⟩,
                       z3 := ⟨e3.kp.toNat, e3.ki.toNat, e3.lmax.toNat⟩, z4 := ⟨e4.kp.toNat, e4.ki.toNat, e4.lmax.toNat⟩,
                       z5 := ⟨e5.kp.toNat, e5.ki.toNat, e5.lmax.toNat⟩ } ∧
        (∀ c : Fin 8, c ≠ b → n.banks[c] = s.banks[c]) ∧
        (∀ t, (s.run.get t).bank = b → ∀ z : Zone, z.number ≤ (s.tubeConfig t).activeZones →
          (n.thermal.get t).zones.get z = { (s.thermal.get t).zones.get z with
            demand := min ((s.thermal.get t).zones.get z).demand (n.banks[b].get z).lmax }) ∧
        (∀ t, (s.run.get t).bank ≠ b → n.thermal.get t = s.thermal.get t) ∧
        n.run = s.run ∧ n.store = s.store ∧ n.gas = s.gas ∧ n.atm = s.atm ∧ n.boat = s.boat ∧ n.faults = s.faults ∧
        n.config = s.config ∧ n.time = s.time)) ∧
(∀ (s : State) (tag x : Byte) (e1 e2 e3 e4 e5 : TuningFields) (pre post : List (Half × Nat)) (v : Half) (limit : Nat),
    s.canTake = true → x.toNat ≤ 7 →
    ([e1, e2, e3, e4, e5].flatMap fun e => [(e.kp, 9999), (e.ki, 9999), (e.lmax, 1000)]) = pre ++ (v, limit) :: post →
    (∀ p ∈ pre, p.1.toNat ≤ p.2) → limit < v.toNat →
    exec (.loadTuning tag x e1 e2 e3 e4 e5) s =
      .next (s.replied (.loadTuning x e1 e2 e3 e4 e5) tag (.no .badField (pre.length + 2))))

/-- Every step keeps each setpoint between its ramp’s origin and target (R46, R52, R53, R56). -/
def Obligations.RampsStaySound : Prop :=
  ∀ s n : State, s.rampsSound → step s = .next n → n.rampsSound

/-- Every step keeps every firing within its demand and every demand within its output limit (R63, R68, R80, R81). -/
def Obligations.HeatersStaySound : Prop :=
  ∀ s n : State, s.heatersSound → step s = .next n → n.heatersSound

/-- An allocation pass classes zones, serves the classes within the budget, hands the odd watts round and settles (log
entries 40, 41) (R75, R76, R77, R78, R79, R80, R82). -/
def Obligations.AllocationStaysWithinTheBudget : Prop :=
  (∀ s : State, s.inReset = false → ∃ n, exec .allocationPass s = .next n ∧
    let budget := match s.alloc.budget with
      | none => 0
      | some b => 1000 * (if s.alloc.shed then s.config.bank.shedBudget else b)
    n.alloc.effective = budget ∧ n.alloc.grantedTotal ≤ budget ∧ n.banks = s.banks ∧
    (∀ t z, ((n.alloc.zone t z).part = true ↔ (s.tubeConfig t).status = .fitted ∧
        z.number ≤ (s.tubeConfig t).activeZones ∧ (s.thermal.get t).runState ≠ .offline ∧
        (s.thermal.get t).inhibit = .clear) ∧
      ((n.alloc.zone t z).part = true →
        (n.alloc.zone t z).watts = (s.tubeConfig t).rating z * ((s.thermal.get t).zones.get z).demand / 10) ∧
      (n.alloc.zone t z).grant ≤ (n.alloc.zone t z).watts ∧
      ((n.alloc.zone t z).part = false → (n.alloc.zone t z).grant = 0 ∧ (n.alloc.zone t z).firing = 0)) ∧
    (n.alloc.grantedTo .soak < n.alloc.classSum .soak (fun z => z.watts) →
      n.alloc.grantedTo .ramp = 0 ∧ n.alloc.grantedTo .other = 0) ∧
    (n.alloc.grantedTo .ramp < n.alloc.classSum .ramp (fun z => z.watts) → n.alloc.grantedTo .other = 0)) ∧
(∀ s : State, s.inReset = false →
    let a := s.allocate.alloc
    let budget := match s.alloc.budget with
      | none => 0
      | some b => 1000 * (if s.alloc.shed then s.config.bank.shedBudget else b)
    exec .allocationPass s = .next (s.allocate.eventOf (bankPositions.map fun p => .powerStarved p.1 p.2)) ∧
    s.allocate = { s with alloc := a } ∧
    (∀ t z, let new := a.zone t z
      let old := s.alloc.zone t z
      let th := s.thermal.get t
      let zr := th.zones.get z
      let walking : Prop := th.runState = .running ∨ th.runState = .holding
      (new.part = true ↔ (s.tubeConfig t).status = .fitted ∧ z.number ≤ (s.tubeConfig t).activeZones ∧
        th.runState ≠ .offline ∧ th.inhibit = .clear) ∧
      (new.part = false → new = { old with part := false, watts := 0, grant := 0, starved := false, firing := 0,
                                           timer := 0, starvedCond := false }) ∧
      (new.part = true →
        (new.cls = .soak ↔ walking ∧ zr.complete = true) ∧
        (new.cls = .ramp ↔ walking ∧ zr.complete = false ∧ zr.origin < zr.target) ∧
        new.watts = (s.tubeConfig t).rating z * zr.demand / 10 ∧
        (new.starved = true ↔ new.grant < new.watts) ∧
        (new.starved = true → new.firing = new.grant * 10 / (s.tubeConfig t).rating z) ∧
        (new.starved = false → new.firing = if new.watts = 0 then 0 else zr.demand) ∧
        new.timer = (if new.cls = .soak ∧ new.starved = true then min 65535 (old.timer + 1) else 0) ∧
        (new.starvedCond = true ↔ old.starvedCond = true ∧ (s.tubeConfig t).starveLimit ≤ new.timer))) ∧
    ∀ k : PowerClass,
      let sum (j : PowerClass) := a.classSum j fun z => z.watts
      let left := match k with
        | .soak => budget
        | .ramp => budget - sum .soak
        | .other => budget - sum .soak - sum .ramp
      let ofClass (p : Tube × Zone) : Prop := (a.zone p.1 p.2).part = true ∧ (a.zone p.1 p.2).cls = k
      let ptr := s.alloc.pointers.get k
      (sum k ≤ left → (∀ t z, ofClass (t, z) → (a.zone t z).grant = (a.zone t z).watts) ∧
        a.results.get k = { demand := sum k, granted := sum k, short := false } ∧ a.pointers.get k = ptr) ∧
      (left < sum k →
        let floor (p : Tube × Zone) := (a.zone p.1 p.2).watts * left / sum k
        let odd := left - a.classSum k fun z => z.watts * left / sum k
        let owed := (bankPositions.drop (ptr - 1) ++ bankPositions.take (ptr - 1)).filter fun p =>
          (a.zone p.1 p.2).part && (a.zone p.1 p.2).cls = k && floor p < (a.zone p.1 p.2).watts
        (∀ t z, ofClass (t, z) →
          (a.zone t z).grant = floor (t, z) + (if (t, z) ∈ owed.take odd then 1 else 0)) ∧
        a.results.get k = { demand := sum k, granted := left, short := true } ∧
        a.pointers.get k = if ptr = 20 then 1 else ptr + 1))

/-- SET_BUDGET writes the budget at once; LOAD_SHED_EDGE the shed state, raising SHED_ACTIVE once (R73, R74, R75). -/
def Obligations.BudgetAndShedStateAreWritten : Prop :=
  (∀ (s : State) (tag : Byte) (b : Half), s.canTake = true →
    (10 ≤ b.toNat → b.toNat ≤ 600 → exec (.setBudget tag b) s = .next (State.replied
      { s with alloc := { s.alloc with budget := some b.toNat } } (.setBudget b) tag
      (.one (u16 b.toNat ++ u16 (s.alloc.budget.getD 0) ++ flag s.alloc.shed ++
        u16 (if s.alloc.shed then s.config.bank.shedBudget else b.toNat))))) ∧
    (b.toNat < 10 ∨ 600 < b.toNat → exec (.setBudget tag b) s =
      .next (s.replied (.setBudget b) tag (.no .badField 1)))) ∧
    (∀ (s : State) (rising : Bool), s.inReset = false →
    let edged : State := { s with
      alloc := { s.alloc with shed := rising, shedActive := s.alloc.shedActive && rising },
      lines := { s.lines with loadShed := rising } }
    (s.config.locked = false ∨ rising = false → exec (.loadShedEdge rising) s = .next edged) ∧
    (s.config.locked = true → rising = true → s.alloc.shedActive = false →
      exec (.loadShedEdge rising) s = .next (State.eventOf
        { edged with alloc := { edged.alloc with shedActive := true } }
        [.shedDetect (match s.alloc.budget with | none => 0 | some _ => s.config.bank.shedBudget)
          (s.alloc.budget.getD 0)])))

/-- The rows of a fault’s onset act where the condition begins, once, and nowhere else (R59, R82, R95, R98, R109, R130,
R131, R132). -/
def Obligations.OnsetsAreReportedOnce : Prop :=
  (∀ (s : State) (t : Tube), s.inReset = false →
    ((s.thermal.get t).runState ≠ .offline → (s.thermal.get t).params.holdback ≠ 0 →
      (s.thermal.get t).params.holdback < (s.thermal.get t).counter →
      ((s.thermal.get t).stalled = false → exec (.rampStalled t) s = .next
        ((s.setThermal t { s.thermal.get t with stalled := true }).after [.detect (detection t .rampStalled none
          (some (s.thermal.get t).counter) (some (s.thermal.get t).params.holdback))])) ∧
      ((s.thermal.get t).stalled = true → exec (.rampStalled t) s = .next s)) ∧
    (∀ z : Zone, (s.alloc.zone t z).part = true → (s.alloc.zone t z).cls = .soak → (s.alloc.zone t z).starved = true →
      (s.tubeConfig t).starveLimit ≤ (s.alloc.zone t z).timer →
      ((s.alloc.zone t z).starvedCond = false → exec (.powerStarved t z) s = .next
        ((s.setAlloc (s.alloc.setZone t z { s.alloc.zone t z with starvedCond := true })).after
          [.detect (detection t .powerStarved (some z.number) (some (s.alloc.zone t z).timer)
            (some (s.tubeConfig t).starveLimit))])) ∧
      ((s.alloc.zone t z).starvedCond = true → exec (.powerStarved t z) s = .next s)) ∧
    (∀ e, s.gas.entry? t = some e → s.config.bank.waitTimeout ≠ 0 → s.config.bank.waitTimeout < e.age →
      e.timedOut = false → exec (.headerWaitTimeout t) s = .next
        ((s.setGas { s.gas with
            queue := s.gas.queue.map fun e => if e.tube = t then { e with timedOut := true } else e }).after
          [.detect (detection t .headerWaitTimeout ((s.gas.blockingHeader s.config.bank.headers e).map GasLine.code)
            (some e.age) (some s.config.bank.waitTimeout))])) ∧
    (∀ l : GasLine, let r := (s.gas.lines.get t).get l
      s.runState t ≠ .offline → r.devRun = 10 →
      (r.raised = false → exec (.flowDeviation t l) s = .next
        ((s.setGas { s.gas with lines := s.gas.lines.set t ((s.gas.lines.get t).set l { r with raised := true }) }).after
          [.detect (detection t .flowDeviation (some l.code) r.offset?
            (some ((s.tubeConfig t).scale.get l * 5 / 100)))])) ∧
      (r.raised = true → exec (.flowDeviation t l) s = .next s)) ∧
    ((s.atm.get t).state = .purge → (s.atm.get t).purgeVolume < (s.atm.get t).purgeTarget →
      (s.atm.get t).purgeLimit ≤ (s.atm.get t).purgeTimer →
      ((s.atm.get t).incomplete = false → exec (.purgeIncomplete t) s = .next
        ((s.setAtm t { s.atm.get t with incomplete := true }).after [.detect (detection t .purgeIncomplete none
          (some (s.atm.get t).purgeVolume) (some (s.atm.get t).purgeTarget))])) ∧
      ((s.atm.get t).incomplete = true → exec (.purgeIncomplete t) s = .next s)) ∧
    ((s.boat.get t).state = .settle → 10 < (s.boat.get t).phaseTimer → (s.boat.get t).within = false →
      exec (.settleTimeout t) s = .next
        ((s.setBoat t { s.boat.get t with state := .stalled, speedCmd := 0 }).after
          [.boatReport t, .detect (detection t .boatStall none (s.boat.get t).offset? (some 10))])) ∧
    ((s.boat.get t).state = .shutterOpening ∨ (s.boat.get t).state = .shutterClosing →
      30 < (s.boat.get t).phaseTimer → exec (.shutterTimeout t) s = .next
        ((s.setBoat t { s.boat.get t with
            shutter := .closed, pos := (s.boat.get t).posMeasured, remainder := 0, closePending := false,
            failed := (s.boat.get t).target.isSome, state := .ready }).after
          [.boatReport t, .detect (detection t .shutterTimeout none (some (s.boat.get t).phaseTimer) (some 30))]))) ∧
(∀ (s : State) (t : Tube), s.inReset = false →
    let th := s.thermal.get t
    let a := s.atm.get t
    let b := s.boat.get t
    let limit := s.config.bank.waitTimeout
    (th.runState = .offline ∨ th.params.holdback = 0 ∨ th.counter ≤ th.params.holdback →
      exec (.rampStalled t) s = .next s) ∧
    (∀ z : Zone, let y := s.alloc.zone t z
      (y.part = false ∨ y.cls ≠ .soak ∨ y.starved = false ∨ y.timer < (s.tubeConfig t).starveLimit →
        exec (.powerStarved t z) s = .next s)) ∧
    ((∀ e, s.gas.entry? t = some e → limit = 0 ∨ e.age ≤ limit ∨ e.timedOut = true) →
      exec (.headerWaitTimeout t) s = .next s) ∧
    (∀ l : GasLine, s.runState t = .offline ∨ ((s.gas.lines.get t).get l).devRun ≠ 10 →
      exec (.flowDeviation t l) s = .next s) ∧
    (a.state ≠ .purge ∨ a.purgeTarget ≤ a.purgeVolume ∨ a.purgeTimer < a.purgeLimit →
      exec (.purgeIncomplete t) s = .next s) ∧
    (b.state ≠ .settle ∨ b.phaseTimer ≤ 10 ∨
        (∃ c m, b.pos = some c ∧ b.measured = some m ∧ Sys2Proof.dist c m ≤ 10) →
      exec (.settleTimeout t) s = .next s) ∧
    (b.state ≠ .shutterOpening ∧ b.state ≠ .shutterClosing ∨ b.phaseTimer ≤ 30 →
      exec (.shutterTimeout t) s = .next s))

/-- FLOW_READBACK, GAS_TICK and ADMITTED act on arbiter, atmosphere and boat as their rules say (order within the gas
tick: log entries 11, 41) (R87, R92, R95, R97, R98, R106, R107, R108, R125, R133). -/
def Obligations.GasRowsOfTheArbiter : Prop :=
  (∀ (s : State) (t : Tube) (l : GasLine) (v : Nat), s.inReset = false →
    let line := { (s.gas.lines.get t).get l with readback := some (min 65535 v) }
    let read := s.setGas { s.gas with lines := s.gas.lines.set t ((s.gas.lines.get t).set l line) }
    let b := s.boat.get t
    let low : Prop := min 65535 v < (s.tubeConfig t).boatN2Min
    let starts : Prop := b.pos ≠ none ∧ b.measured ≠ none ∧ ¬ low ∧ (s.atm.get t).state ≠ .preflow ∧
      (s.atm.get t).state ≠ .ignite ∧ (s.atm.get t).state ≠ .lit ∧ b.holdFlag = false
    (∃ n, exec (.flowReadback t l v) s = .next n ∧ ((n.gas.lines.get t).get l).readback = some (min 65535 v)) ∧
    (l ≠ .n2 ∨ (b.state ≠ .travel ∧ b.state ≠ .paused ∧ b.state ≠ .waitCond) →
      exec (.flowReadback t l v) s = .next read) ∧
    (l = .n2 → b.state = .travel →
      (low → exec (.flowReadback t l v) s = .next ((read.setBoat t
        { b with pauseN2 := true, state := .paused, speedCmd := 0 }).eventOf [.boatReport t])) ∧
      (¬ low → b.pauseHold = false → exec (.flowReadback t l v) s =
        .next (read.setBoat t { b with pauseN2 := false }))) ∧
    (l = .n2 → b.state = .paused →
      (low → exec (.flowReadback t l v) s = .next (read.setBoat t { b with pauseN2 := true })) ∧
      (¬ low → b.pauseHold = true → exec (.flowReadback t l v) s =
        .next (read.setBoat t { b with pauseN2 := false })) ∧
      (¬ low → b.pauseHold = false → exec (.flowReadback t l v) s =
        .next ((read.setBoat t { b with pauseN2 := false, state := .travel }).eventOf [.boatReport t]))) ∧
    (l = .n2 → b.state = .waitCond →
      (¬ starts → exec (.flowReadback t l v) s = .next (read.setBoat t { b with speedCmd := 0 })) ∧
      (starts → b.shutter = .opened → exec (.flowReadback t l v) s =
        .next ((read.setBoat t { b with state := .travel }).eventOf [.boatReport t])) ∧
      (starts → b.shutter ≠ .opened → b.openLimit = false → exec (.flowReadback t l v) s =
        .next ((read.setBoat t { b with state := .shutterOpening, shutter := .opening, phaseTimer := 0,
                                        speedCmd := 0 }).eventOf [.boatReport t])) ∧
      (∀ x, starts → b.shutter ≠ .opened → b.openLimit = true → b.target = some x → b.pos ≠ some x →
        exec (.flowReadback t l v) s = .next ((read.setBoat t
          { b with shutter := .opened, state := .travel, remainder := 0 }).eventOf [.boatReport t])))) ∧
  (∀ (s : State) (t : Tube), s.inReset = false →
    let cfg := s.tubeConfig t
    let a := s.atm.get t
    let ls := s.gas.lines.get t
    let far (r : LineRec) (scale : Nat) : Bool := match r.readback with
      | none => false
      | some v => scale * 5 / 100 < Sys2Proof.dist v r.command
    let ticked (r : LineRec) (scale : Nat) : LineRec :=
      let run := if far r scale then min 10 (r.devRun + 1) else 0
      if scale = 0 then r
      else if r.age + 1 < 15 then { r with age := r.age + 1 }
      else { r with age := min 65535 (r.age + 1), devRun := run, deviation := run = 10,
                    raised := r.raised || run = 10 }
    let newly (l : GasLine) : Bool := ((ls.get l).raised == false) && (cfg.scale.get l != 0) &&
      decide (15 ≤ (ls.get l).age + 1) && ((ticked (ls.get l) (cfg.scale.get l)).devRun == 10)
    let counted := s.setGas { s.gas with
      queue := s.gas.queue.map fun e => if e.tube = t then { e with age := min 65535 (e.age + 1) } else e
      lines := s.gas.lines.set t
        { n2 := ticked ls.n2 cfg.scale.n2, o2 := ticked ls.o2 cfg.scale.o2, h2 := ticked ls.h2 cfg.scale.h2,
          aux := ticked ls.aux cfg.scale.aux } }
    let quiet : Prop := (∀ l, newly l = false) ∧ ∀ e ∈ s.gas.queue, e.tube = t →
      s.config.bank.waitTimeout = 0 ∨ min 65535 (e.age + 1) ≤ s.config.bank.waitTimeout ∨ e.timedOut = true
    let q := (ls.n2.readback).getD 0
    let purged : AtmRec := { a with
      purgeTimer := min 65535 (a.purgeTimer + 1)
      purgeVolume := min 4294967295 (a.purgeVolume + (a.purgeRemainder + q) / 60)
      purgeRemainder := (a.purgeRemainder + q) % 60 }
    let aged : AtmRec := { a with phaseTimer := min 65535 (a.phaseTimer + 1) }
    (s.runState t = .offline → exec (.gasTick t) s = .next s) ∧
    (s.runState t ≠ .offline →
      exec (.gasTick t) s = .next (counted.eventOf ([.headerWait t] ++
        (([.n2, .o2, .h2, .aux] : List GasLine).flatMap fun l => if newly l then
          [.detect (detection t .flowDeviation (some l.code)
            ((ls.get l).readback.map fun v => Sys2Proof.dist v (ls.get l).command)
            (some (cfg.scale.get l * 5 / 100)))] else []) ++ [.atmTick t])) ∧
      (quiet →
        (a.state = .stable ∨ a.state = .waitHeader ∨ a.state = .lit ∨ a.state = .safeFlow →
          exec (.gasTick t) s = .next counted) ∧
        (a.state = .purge → purged.purgeVolume < a.purgeTarget →
          purged.purgeTimer < a.purgeLimit ∨ a.incomplete = true →
          exec (.gasTick t) s = .next (counted.setAtm t purged)) ∧
        (a.state = .preflow → aged.phaseTimer < cfg.preflowTime ∨ a.awaited ≠ none ∨ a.flame = true →
          exec (.gasTick t) s = .next (counted.setAtm t aged)) ∧
        (a.state = .ignite → aged.phaseTimer < cfg.ignitionTimeout →
          exec (.gasTick t) s = .next (counted.setAtm t aged)) ∧
        (a.state = .extinguish → aged.phaseTimer < cfg.postFlowTime →
          exec (.gasTick t) s = .next (counted.setAtm t aged)))) ∧
    ∀ c : Ctx, c.s = s → s.runState t ≠ .offline →
      (a.state = .purge → taskAtmTick t c = ({ c with s := s.setAtm t purged }, [.purgeComplete t, .purgeIncomplete t])) ∧
      (a.state = .preflow → taskAtmTick t c = ({ c with s := s.setAtm t aged }, [.ignitionTest t])) ∧
      (a.state = .ignite → taskAtmTick t c = ({ c with s := s.setAtm t aged }, [.ignitionFailed t])) ∧
      (a.state = .extinguish → taskAtmTick t c = ({ c with s := s.setAtm t aged }, [.postFlowEnd t])) ∧
      (a.state = .stable ∨ a.state = .waitHeader ∨ a.state = .lit ∨ a.state = .safeFlow → taskAtmTick t c = (c, []))) ∧
  (∀ s : State, s.inReset = false →
    (s.gas.queue = [] → exec .admitted s = .next s) ∧
    (∀ e rest, s.gas.queue = e :: rest → s.gas.passes s.config.bank.headers e.tube e.flows = false →
      exec .admitted s = .next s) ∧
    (∀ e p, s.gas.queue = [e] → s.gas.passes s.config.bank.headers e.tube e.flows = true →
      (s.atm.get e.tube).awaited = some p →
      (p = .preflow → (s.atm.get e.tube).state ≠ .preflow ∧ 1 ≤ (s.tubeConfig e.tube).preflowTime) →
      (s.runState e.tube = .idle ∨ s.runState e.tube = .holding) →
      ∃ n, exec .admitted s = .next n ∧ n.gas.queue = [] ∧ n.gas.granted.get e.tube = e.flows ∧
        n.gas.commands e.tube = e.flows ∧ (n.atm.get e.tube).state = p.state ∧ (n.atm.get e.tube).awaited = none ∧
        (n.atm.get e.tube).inForce = e.flows ∧ n.faults = s.faults ∧
        ∀ u, u ≠ e.tube → n.gas.granted.get u = s.gas.granted.get u ∧ n.gas.commands u = s.gas.commands u))

/-- A submission is applied only as a lowering, or past an empty queue within every header limit (R88, R89, R90, R91). -/
def Obligations.AdmissionTestKeepsTheHeaders : Prop :=
  (∀ (g : Gas) (headers : Flows) (t : Tube) (f : Flows),
    (∀ l, g.grantedSum l (fun _ => true) ≤ 1000 * headers.get l) →
    let r := g.submit headers t f
    (r.2.1 = .applied → r.1.granted.get t = f ∧ r.1.commands t = f ∧ r.1.entry? t = none ∧
      (∀ l, r.1.grantedSum l (fun _ => true) ≤ 1000 * headers.get l) ∧
      ∀ u, u ≠ t → r.1.granted.get u = g.granted.get u ∧ r.1.commands u = g.commands u) ∧
    (r.2.1 ≠ .applied → r.1.granted = g.granted ∧ r.1.lines = g.lines ∧ (r.1.entry? t).isSome = true) ∧
    ((∀ l, f.get l ≤ (g.granted.get t).get l) → r.2.1 = .applied)) ∧
(∀ (g : Gas) (headers : Flows) (t : Tube) (f : Flows), (∃ l, (g.granted.get t).get l < f.get l) →
    let r := g.submit headers t f
    let fits : Prop := ∀ l, g.grantedSum l (fun u => u ≠ t) + f.get l ≤ 1000 * headers.get l
    let joins : Prop := r.2.1 = .queued ∧
      r.1 = { g with queue := g.queue ++ [{ tube := t, flows := f, age := 0, timedOut := false }] }
    ((g.entry? t).isSome = true → r.2.1 = .replaced ∧
      r.1 = { g with queue := g.queue.map fun e => if e.tube = t then { e with flows := f } else e }) ∧
    (g.entry? t = none → g.queue ≠ [] → joins) ∧
    (g.queue = [] → fits → r.2.1 = .applied) ∧ (g.queue = [] → ¬ fits → joins))

/-- Once the bank is commissioned, no step takes a header’s granted sum past its limit (R88, R91, R96). -/
def Obligations.HeadersStayWithinTheirLimits : Prop :=
  ∀ s n : State, s.config.locked = true → s.headersKept → step s = .next n → n.headersKept

/-- A full purge continues, a finished preflow lights the torch, a finished post-flow purges (failed condition, boat
before a report: log entries 3, 47) (R108, R109, R110, R115). -/
def Obligations.PurgeTorchAndPostFlowAdvance : Prop :=
  ∀ (s : State) (t : Tube), s.inReset = false →
    let a := s.atm.get t
    let cfg := s.tubeConfig t
    let preflow : Flows := { n2 := a.target.n2, o2 := a.target.o2, h2 := 0, aux := 0 }
    let ignition : Flows :=
      { n2 := a.target.n2, o2 := a.target.o2, h2 := min cfg.ignitionH2 (min a.target.h2 (cfg.ratio * a.target.o2 / 100)),
        aux := 0 }
    let purge : Flows := { n2 := cfg.purgeN2, o2 := 0, h2 := 0, aux := 0 }
    let fits (f : Flows) : Prop := s.gas.queue = [] ∧ s.gas.passes s.config.bank.headers t f = true
    (a.state ≠ .purge ∨ a.purgeVolume < a.purgeTarget → exec (.purgeComplete t) s = .next s) ∧
    (a.state = .purge → a.purgeTarget ≤ a.purgeVolume → a.targetClass = .steam → fits preflow →
      (s.run.get t).gasView = false → 1 ≤ cfg.preflowTime → ∃ n, exec (.purgeComplete t) s = .next n ∧
        (n.atm.get t).state = .preflow ∧ (n.atm.get t).phaseTimer = 0 ∧ (n.atm.get t).purged = true ∧
        n.gas.commands t = preflow ∧ n.faults = s.faults) ∧
    (a.state = .purge → a.purgeTarget ≤ a.purgeVolume → a.targetClass ≠ .steam → fits a.target →
      (s.runState t = .idle ∨ s.runState t = .holding) → ∃ n, exec (.purgeComplete t) s = .next n ∧
        (n.atm.get t).state = .stable ∧ n.gas.commands t = a.target ∧ (n.atm.get t).cls = classOf a.target ∧
        n.faults = s.faults) ∧
    (a.state ≠ .preflow ∨ a.awaited ≠ none ∨ a.phaseTimer < cfg.preflowTime ∨ a.flame = true ∨
      ((s.boat.get t).state ≠ .ready ∧ (s.boat.get t).state ≠ .waitCond) → exec (.ignitionChange t) s = .next s) ∧
    (a.state = .preflow → a.awaited = none → cfg.preflowTime ≤ a.phaseTimer → a.flame = false →
      ((s.boat.get t).state = .ready ∨ (s.boat.get t).state = .waitCond) → fits ignition →
      (s.run.get t).gasView = false → ∃ n, exec (.ignitionChange t) s = .next n ∧
        (n.atm.get t).state = .ignite ∧ (n.atm.get t).igniter = true ∧ (n.atm.get t).phaseTimer = 0 ∧
        n.gas.commands t = ignition ∧ n.faults = s.faults) ∧
    (a.state ≠ .extinguish ∨ a.phaseTimer < cfg.postFlowTime → exec (.postFlowEnd t) s = .next s) ∧
    (a.state = .extinguish → cfg.postFlowTime ≤ a.phaseTimer → fits purge → (s.run.get t).gasView = false →
      (s.boat.get t).state ≠ .waitCond → ∃ n, exec (.postFlowEnd t) s = .next n ∧
        (n.atm.get t).state = .purge ∧ (n.atm.get t).purgeVolume = 0 ∧ (n.atm.get t).purgeTimer = 0 ∧
        (n.atm.get t).purgeTarget = cfg.volume * 1000 * cfg.exchanges ∧ n.gas.commands t = purge ∧
        n.faults = s.faults)

/-- A lost flame and a failed ignition shut the hydrogen in the same event; a flame found lights the torch (no failure:
log entry 3) (R110, R111, R112, R113, R114, R115). -/
def Obligations.LostFlameShutsTheHydrogen : Prop :=
  (∀ (s : State) (t : Tube), s.inReset = false → s.torchesSound →
    let a := s.atm.get t
    let dark (n : State) : Prop := (n.gas.commands t).h2 = 0 ∧ (n.atm.get t).igniter = false ∧
      (n.atm.get t).state ≠ .lit ∧ (n.atm.get t).state ≠ .ignite
    (a.state = .lit → ∃ n, exec (.flameSenseFall t) s = .next n ∧ dark n ∧ (n.atm.get t).flame = false) ∧
    (a.state = .ignite → (s.tubeConfig t).ignitionTimeout ≤ a.phaseTimer →
      ∃ n, exec (.ignitionFailed t) s = .next n ∧ dark n) ∧
    (a.state ≠ .ignite ∨ a.phaseTimer < (s.tubeConfig t).ignitionTimeout →
      exec (.ignitionFailed t) s = .next s) ∧
    (a.state = .ignite → ∃ n, exec (.flameSenseRise t) s = .next n ∧ (n.atm.get t).igniter = false ∧
      (n.atm.get t).flame = true ∧
      (s.runState t ≠ .running → s.runState t ≠ .aborting → s.gas.queue = [] →
        s.gas.passes s.config.bank.headers t a.target = true →
        (n.atm.get t).state = .lit ∧ n.gas.commands t = a.target)) ∧
    (a.state ≠ .ignite → exec (.flameSenseRise t) s = .next (s.setFlame t true)) ∧
    (a.state ≠ .lit → a.state ≠ .preflow → exec (.flameSenseFall t) s = .next (s.setFlame t false))) ∧
(∀ (s : State) (t : Tube), s.inReset = false → (s.atm.get t).state = .preflow →
    exec (.flameSenseFall t) s = .next ((s.setFlame t false).eventOf [.ignitionTest t]) ∧
    ((s.atm.get t).awaited ≠ none ∨ (s.atm.get t).phaseTimer < (s.tubeConfig t).preflowTime ∨
      ((s.boat.get t).state ≠ .ready ∧ (s.boat.get t).state ≠ .waitCond) →
      exec (.flameSenseFall t) s = .next (s.setFlame t false)))

/-- Every step keeps hydrogen shut outside IGNITE and LIT, within the ratio limit, and the igniter off outside IGNITE
(R86, R89, R101, R103, R106, R110, R111, R114, R115, R118, R172). -/
def Obligations.TorchesStaySound : Prop :=
  (∀ s n : State, s.torchesSound → step s = .next n → n.torchesSound) ∧
(∀ s n : State, s.torchesSound → s.ratiosKept → step s = .next n → n.ratiosKept)

/-- A gas request is merged, clamped and classed; a withdrawal, a change of flows and the path follow their tables (log
entries 13, 43, 44) (R93, R101, R103, R104, R105, R106, R108, R110, R115, R116, R117). -/
def Obligations.ClassAndClampOfFlows : Prop :=
  (∀ (c : Ctx) (t : Tube) (q : PerLine (Option Nat)),
    let a := c.s.atm.get t
    let e := taskGasRequest t q c
    let merged : Flows := { n2 := q.n2.getD a.requested.n2, o2 := q.o2.getD a.requested.o2,
                            h2 := q.h2.getD a.requested.h2, aux := q.aux.getD a.requested.aux }
    let limit := (c.s.tubeConfig t).ratio * merged.o2 / 100
    let target := (e.1.s.atm.get t).target
    (e.1.s.atm.get t).requested = merged ∧
      (merged.h2 ≤ limit → target = merged) ∧ (limit < merged.h2 → target = { merged with h2 := limit }) ∧
      ((e.1.s.atm.get t).targetClass = .steam ↔ 0 < target.h2) ∧
      ((e.1.s.atm.get t).targetClass = .doping ↔ target.h2 = 0 ∧ 0 < target.aux) ∧
      ((e.1.s.atm.get t).targetClass = .oxidizing ↔ target.h2 = 0 ∧ target.aux = 0 ∧ 0 < target.o2) ∧
      e.2 = (if limit < merged.h2 then
          [.detect (detection t .ratioClamped none (some merged.h2) (some limit))] else []) ++
        (if a.safeHold = true then [] else [.recompute t false]) ∧
      e.1.s.gas = c.s.gas ∧ e.1.s.boat = c.s.boat ∧ e.1.s.run = c.s.run) ∧
(∀ (c : Ctx) (t : Tube),
    let a := c.s.atm.get t
    (c.s.gas.entry? t = none → taskWithdraw t c = (c, [])) ∧
    let kept : AtmRec := { a with
      requested := a.inForce, target := a.inForce, targetClass := classOf a.inForce, fallback := false, awaited := none }
    let gas : Gas := { c.s.gas with queue := c.s.gas.queue.filter fun e => e.tube ≠ t }
    ((c.s.gas.entry? t).isSome = true → taskWithdraw t c =
      ({ c with s := { c.s with gas := gas, atm := c.s.atm.set t kept } }, [.recompute t true, .examine]))) ∧
  (∀ (c : Ctx) (t : Tube) (f : Flows) (p : Phase) (origin : WaitOrigin),
    let a := c.s.atm.get t
    let cfg := c.s.tubeConfig t
    let r := c.s.gas.submit c.s.config.bank.headers t f
    let n := (submitChange t f p origin c).1.s
    let b := n.atm.get t
    n = { c.s with gas := r.1, atm := c.s.atm.set t b } ∧
    (r.2.1 = .applied → b.inForce = f ∧ b.cls = classOf f ∧ b.awaited = none ∧ b.state = p.state ∧
      (b.purged = true ↔ a.purged = true ∧
        (p = .preflow ∨ p = .ignite ∨ f = { n2 := cfg.purgeN2, o2 := 0, h2 := 0, aux := 0 })) ∧
      (a.state ≠ p.state →
        (p = .purge → b.purgeTarget = cfg.volume * 1000 * cfg.exchanges ∧ b.purgeVolume = 0 ∧
          b.purgeRemainder = 0 ∧ b.purgeTimer = 0 ∧ b.incomplete = false ∧
          b.purgeLimit = 3 * ((cfg.volume * 1000 * cfg.exchanges * 60 + (cfg.purgeN2 - 1)) / cfg.purgeN2)) ∧
        (p = .preflow → b.phaseTimer = 0) ∧ (p = .ignite → b.phaseTimer = 0 ∧ b.igniter = true))) ∧
    (r.2.1 ≠ .applied → b = if a.state = .preflow ∨ a.state = .lit then { a with awaited := some p }
      else { a with state := .waitHeader, awaited := some p, waitOrigin := origin })) ∧
  (∀ (c : Ctx) (t : Tube) (w : Bool),
    let a := c.s.atm.get t
    let cfg := c.s.tubeConfig t
    let steam : Prop := a.targetClass = .steam
    let need (leaving : AtmClass) : Prop := steam ∨ leaving ≠ a.targetClass ∧
      (leaving = .doping ∨ leaving = .steam ∨ a.targetClass = .doping)
    let purge : Flows := { n2 := cfg.purgeN2, o2 := 0, h2 := 0, aux := 0 }
    let preflow : Flows := { n2 := a.target.n2, o2 := a.target.o2, h2 := 0, aux := 0 }
    let ignition : Flows := { preflow with h2 := min cfg.ignitionH2 (min a.target.h2 (cfg.ratio * a.target.o2 / 100)) }
    let e := taskRecompute t w c
    let path (leaving : AtmClass) (o : WaitOrigin) : Prop :=
      (steam ∨ need leaving ∧ a.purged = false →
        e = submitChange t purge .purge o (c.put (c.s.setAtm t { a with purgeOrigin := leaving }))) ∧
      (¬ steam → ¬ need leaving ∨ a.purged = true → e = submitChange t a.target .stable o c)
    (a.state = .stable ∨ a.state = .safeFlow ∨ a.state = .waitHeader ∧ a.waitOrigin = .stable → path a.cls .stable) ∧
    (a.state = .waitHeader → a.waitOrigin = .purgeSuperseded → path a.purgeOrigin .purgeSuperseded) ∧
    (a.state = .waitHeader → a.waitOrigin = .purgeDone →
      (steam → e = submitChange t preflow .preflow .purgeDone c) ∧
      (¬ steam → e = submitChange t a.target .stable .purgeDone c)) ∧
    (a.state = .waitHeader → a.waitOrigin = .extinguish →
      e = if w then submitChange t purge .purge .extinguish c else (c, [])) ∧
    (a.state = .purge → (need a.purgeOrigin → e = (c, [])) ∧
      (¬ need a.purgeOrigin → e = submitChange t a.target .stable .purgeSuperseded
        (c.put (c.s.setAtm t { a with incomplete := false })))) ∧
    (a.state = .preflow → steam →
      (a.awaited = none → preflow = a.inForce → e = (c, [])) ∧
      (a.awaited = none → preflow ≠ a.inForce → e = submitChange t preflow .preflow .stable c) ∧
      (a.awaited = some .preflow → e = submitChange t preflow .preflow .stable c) ∧
      (a.awaited = some .ignite → e = submitChange t ignition .ignite .stable c)) ∧
    (a.state = .ignite → steam → e = (c, [])) ∧
    (a.state = .lit → steam → e = submitChange t a.target .lit .stable c) ∧
    (a.state = .preflow ∨ a.state = .ignite ∨ a.state = .lit → ¬ steam → e = extinguish t [] c) ∧
    (a.state = .extinguish → e = (c, []))) ∧
  (∀ (c : Ctx) (t : Tube) (mid : List Task),
    let a := c.s.atm.get t
    let n := (extinguish t mid c).1.s
    let b := n.atm.get t
    let shut : Flows := { n2 := a.inForce.n2, o2 := a.inForce.o2, h2 := 0, aux := 0 }
    b.state = .extinguish ∧ b.phaseTimer = 0 ∧ b.igniter = false ∧ b.awaited = none ∧ b.purgeOrigin = .steam ∧
    (c.s.gas.granted.get t = a.inForce → n.gas.commands t = shut ∧ n.gas.granted.get t = shut ∧ b.inForce = shut ∧
      b.cls = classOf shut ∧ n.gas.entry? t = none))

/-- SET_SPEED_TABLE replaces the table; BOAT_JOG is refused in its order, starts a move or retargets the one in flight
(log entry 29) (R124, R125, R129, R130, R134, R136). -/
def Obligations.SpeedTableAndJog : Prop :=
  (∀ (s : State) (tag b : Byte) (t : Tube), s.canTake = true → tubeField b = some t →
    (∀ es : List (Half × Half), es.length ≤ 6 →
      (∀ e ∈ es, e.1.toNat ≤ 14000 ∧ 10 ≤ e.2.toNat ∧ e.2.toNat ≤ 600) →
      es.Pairwise (fun p q => p.1.toNat < q.1.toNat ∧ q.2.toNat ≤ p.2.toNat) →
      ∃ n, exec (.setSpeedTable tag b es) s = .next n ∧
        n = { s.setBoat t { s.boat.get t with speedTable := es.map fun e => (e.1.toNat, e.2.toNat) } with
              link := n.link }) ∧
    (∀ es : List (Half × Half), 7 ≤ es.length → es.length ≤ 61 → exec (.setSpeedTable tag b es) s =
      .next (s.replied (.setSpeedTable b es) tag (.no .badField 2))) ∧
    (∀ x v : Half, x.toNat ≤ 24000 → 10 ≤ v.toNat → v.toNat ≤ 600 →
      let bt := s.boat.get t
      let starts : Prop := bt.pos ≠ none ∧ bt.measured ≠ none ∧
        (s.tubeConfig t).boatN2Min ≤ ((s.gas.lines.get t).n2.readback).getD 0 ∧
        (s.atm.get t).state ≠ .ignite ∧ (s.atm.get t).state ≠ .lit ∧ bt.holdFlag = false
      (s.runState t ≠ .idle → exec (.boatJog tag b x v) s =
        .next (s.replied (.boatJog b x v) tag (.no .wrongState 0))) ∧
      (s.runState t = .idle → (s.tubeConfig t).travel < x.toNat → exec (.boatJog tag b x v) s =
        .next (s.replied (.boatJog b x v) tag (.refuse .range 2 (0xFF, 0)))) ∧
      (s.runState t = .idle → x.toNat ≤ (s.tubeConfig t).travel → bt.state = .stalled →
        exec (.boatJog tag b x v) s = .next (s.replied (.boatJog b x v) tag (.no .wrongState 0))) ∧
      (s.runState t = .idle → x.toNat ≤ (s.tubeConfig t).travel → bt.state = .ready →
        (s.atm.get t).state ≠ .preflow → ∃ n, exec (.boatJog tag b x v) s = .next n ∧
        n.gas = s.gas ∧ n.atm = s.atm ∧ n.faults = s.faults ∧ n.store = s.store ∧ s.sameTubesBut n t ∧
        (n.boat.get t).pos = bt.pos ∧
        (bt.pos = some x.toNat → (n.boat.get t).state = .ready ∧ (n.boat.get t).target = none) ∧
        (bt.pos ≠ some x.toNat → ¬ starts → (n.boat.get t).state = .waitCond ∧
          (n.boat.get t).target = some x.toNat ∧ (n.boat.get t).stepSpeed = v.toNat) ∧
        (bt.pos ≠ some x.toNat → starts → bt.shutter = .opened → (n.boat.get t).state = .travel ∧
          (n.boat.get t).target = some x.toNat ∧ (n.boat.get t).stepSpeed = v.toNat)) ∧
      (s.runState t = .idle → x.toNat ≤ (s.tubeConfig t).travel → bt.state ≠ .ready → bt.state ≠ .stalled →
        (s.atm.get t).state ≠ .preflow → ∃ n, exec (.boatJog tag b x v) s = .next n ∧
        n.gas = s.gas ∧ n.atm = s.atm ∧ n.faults = s.faults ∧ n.store = s.store ∧ s.sameTubesBut n t ∧
        let taken : BoatRec := { bt with target := some x.toNat, stepSpeed := v.toNat, failed := false,
                                         closePending := decide (x.toNat = 0) }
        (bt.state = .waitCond → bt.pos = some x.toNat → n.boat.get t =
          { taken with state := .ready, target := none, closePending := false, speedCmd := 0 }) ∧
        (bt.state = .waitCond → bt.pos ≠ some x.toNat → ¬ starts → n.boat.get t = { taken with speedCmd := 0 }) ∧
        (bt.state = .waitCond → bt.pos ≠ some x.toNat → starts → bt.shutter = .opened →
          n.boat.get t = { taken with state := .travel }) ∧
        (bt.state = .shutterOpening ∨ bt.state = .shutterClosing → n.boat.get t = taken) ∧
        (bt.state = .travel → bt.pos ≠ some x.toNat → n.boat.get t = { taken with remainder := 0 }) ∧
        (∀ m, bt.state = .travel → bt.pos = some x.toNat → bt.measured = some m →
          10 < Sys2Proof.dist x.toNat m → n.boat.get t = { taken with
            remainder := 0, state := .settle, phaseTimer := 0, speedCmd := 10,
            direction := if m < x.toNat then .inward else .outward }) ∧
        (bt.state = .paused → n.boat.get t = { taken with remainder := 0 }) ∧
        (bt.state = .settle → bt.pos = some x.toNat → n.boat.get t = taken) ∧
        (bt.state = .settle → bt.pos ≠ some x.toNat →
          n.boat.get t = { taken with remainder := 0, state := .travel })))) ∧
(∀ (s : State) (tag b : Byte) (x v : Half), s.canTake = true →
    let refused (n : Nat) : Prop := exec (.boatJog tag b x v) s = .next (s.replied (.boatJog b x v) tag (.no .badField n))
    (b.toNat = 0 ∨ 4 < b.toNat → refused 1) ∧
    (1 ≤ b.toNat → b.toNat ≤ 4 → (24000 < x.toNat → refused 2) ∧
      (x.toNat ≤ 24000 → v.toNat < 10 ∨ 600 < v.toNat → refused 3))) ∧
(∀ (s : State) (tag b : Byte) (es : List (Half × Half)), s.canTake = true → es.length ≤ 61 →
    b.toNat = 0 ∨ 4 < b.toNat →
    exec (.setSpeedTable tag b es) s = .next (s.replied (.setSpeedTable b es) tag (.no .badField 1))) ∧
(∀ (s : State) (tag b : Byte) (pre post : List (Half × Half)) (e : Half × Half), s.canTake = true →
    1 ≤ b.toNat → b.toNat ≤ 4 → (pre ++ e :: post).length ≤ 6 →
    (∀ p ∈ pre, p.1.toNat ≤ 14000 ∧ 10 ≤ p.2.toNat ∧ p.2.toNat ≤ 600) →
    pre.Pairwise (fun p q => p.1.toNat < q.1.toNat ∧ q.2.toNat ≤ p.2.toNat) →
    let refused (n : Nat) : Prop := exec (.setSpeedTable tag b (pre ++ e :: post)) s =
      .next (s.replied (.setSpeedTable b (pre ++ e :: post)) tag (.no .badField n))
    let threshold : Prop := e.1.toNat ≤ 14000 ∧ ∀ p, pre.getLast? = some p → p.1.toNat < e.1.toNat
    let speed : Prop := 10 ≤ e.2.toNat ∧ e.2.toNat ≤ 600 ∧ ∀ p, pre.getLast? = some p → e.2.toNat ≤ p.2.toNat
    (¬ threshold → refused (2 * pre.length + 3)) ∧ (threshold → ¬ speed → refused (2 * pre.length + 4)))

/-- MOTION_TICK moves C, settles and counts phases at the table’s speed; POSITION_ARRIVAL finds a stall and settles
(R123, R126, R127, R128, R130, R131). -/
def Obligations.BoatTravelsToTheUnit : Prop :=
  (∀ (s : State) (t : Tube), s.inReset = false →
    let b := s.boat.get t
    (b.state = .ready ∨ b.state = .waitCond ∨ b.state = .paused ∨ b.state = .stalled →
      exec (.motionTick t) s = .next s) ∧
    (∀ c x, b.state = .travel → b.pos = some c → b.target = some x →
      let v := min b.stepSpeed (min (speedLimit b.speedTable (s.mouth t)) 600)
      let inc := (b.remainder + 10 * v) / 60
      let moved := if c < x then c + inc else c - inc
      inc < Sys2Proof.dist x c →
      (∀ m, b.measured = some m → Sys2Proof.dist moved m ≤ (s.tubeConfig t).stallLimit) →
      exec (.motionTick t) s = .next (s.setBoat t { b with
        effSpeed := v, remainder := (b.remainder + 10 * v) % 60, pos := some moved, speedCmd := v,
        direction := if c < x then .inward else .outward })) ∧
    (∀ p, b.state = .ready → exec (.positionArrival t p) s = .next (s.setBoat t { b with
      measured := some (min 65535 p),
      pos := match b.pos with | some c => some c | none => some (min 65535 p) })) ∧
    (∀ p c, b.state = .travel → b.pos = some c →
      (Sys2Proof.dist c (min 65535 p) ≤ (s.tubeConfig t).stallLimit → exec (.positionArrival t p) s =
        .next (s.setBoat t { b with measured := some (min 65535 p) })) ∧
      ((s.tubeConfig t).stallLimit < Sys2Proof.dist c (min 65535 p) → exec (.positionArrival t p) s =
        .next ((s.setBoat t { b with measured := some (min 65535 p), state := .stalled, speedCmd := 0 }).eventOf
          [.boatReport t, .detect (detection t .boatStall none (some (Sys2Proof.dist c (min 65535 p)))
            (some (s.tubeConfig t).stallLimit))])))) ∧
(∀ (s : State) (t : Tube) (c : Nat), s.inReset = false →
    let b := s.boat.get t
    b.pos = some c →
    let done (r : BoatRec) : BoatRec :=
      { r with state := .ready, target := none, failed := false, closePending := false, speedCmd := 0 }
    let toward (m : Nat) (r : BoatRec) : BoatRec :=
      { r with speedCmd := 10, direction := if m < c then .inward else .outward }
    let closing (r : BoatRec) : BoatRec :=
      { r with state := .shutterClosing, shutter := .closing, phaseTimer := 0, speedCmd := 0 }
    (∀ p, b.state = .settle → let m := min 65535 p
      let r : BoatRec := { b with measured := some m }
      (Sys2Proof.dist c m ≤ 10 → b.closePending = false → exec (.positionArrival t p) s =
        .next ((s.setBoat t (done r)).eventOf [.boatReport t])) ∧
      (Sys2Proof.dist c m ≤ 10 → b.closePending = true → b.closedLimit = false → exec (.positionArrival t p) s =
        .next ((s.setBoat t (closing r)).eventOf [.boatReport t])) ∧
      (Sys2Proof.dist c m ≤ 10 → b.closePending = true → b.closedLimit = true → exec (.positionArrival t p) s =
        .next ((s.setBoat t (done { r with shutter := .closed })).eventOf [.boatReport t])) ∧
      (10 < Sys2Proof.dist c m → exec (.positionArrival t p) s = .next (s.setBoat t (toward m r)))) ∧
    (∀ m, b.state = .settle → b.measured = some m →
      let r : BoatRec := { b with phaseTimer := min 65535 (b.phaseTimer + 1) }
      (Sys2Proof.dist c m ≤ 10 → b.closePending = false → exec (.motionTick t) s =
        .next ((s.setBoat t (done r)).eventOf [.boatReport t, .settleTimeout t])) ∧
      (10 < Sys2Proof.dist c m → b.phaseTimer < 10 → exec (.motionTick t) s = .next (s.setBoat t (toward m r))) ∧
      (10 < Sys2Proof.dist c m → 10 ≤ b.phaseTimer → exec (.motionTick t) s =
        .next ((s.setBoat t (toward m r)).eventOf [.settleTimeout t]))) ∧
    (∀ x m, b.state = .travel → b.target = some x → b.measured = some m →
      let v := min b.stepSpeed (min (speedLimit b.speedTable (s.mouth t)) 600)
      Sys2Proof.dist x c ≤ (b.remainder + 10 * v) / 60 → 10 < Sys2Proof.dist x m →
      Sys2Proof.dist x m ≤ (s.tubeConfig t).stallLimit →
      exec (.motionTick t) s = .next ((s.setBoat t { b with
        effSpeed := v, remainder := (b.remainder + 10 * v) % 60, pos := some x, state := .settle, phaseTimer := 0,
        speedCmd := 10, direction := if m < x then .inward else .outward }).eventOf [.boatReport t])) ∧
    (b.state = .shutterOpening ∨ b.state = .shutterClosing → b.phaseTimer < 30 → exec (.motionTick t) s =
      .next (s.setBoat t { b with phaseTimer := b.phaseTimer + 1 }))) ∧
  (∀ table : List (Nat × Nat),
    (∀ v, (∀ e ∈ table, v < e.1) → speedLimit table (.temp v) = 600) ∧
    (∀ before e after v, table = before ++ e :: after → e.1 ≤ v → (∀ f ∈ after, v < f.1) →
      speedLimit table (.temp v) = e.2) ∧
    (∀ m : Sample, m = .isOpen ∨ m = .absent → (table = [] → speedLimit table m = 10) ∧
      ∀ before e, table = before ++ [e] → speedLimit table m = e.2))

/-- A waiting move starts when its conditions hold (MOVE_START judges them again: log entry 3); the limit edges end the
shutter’s phases (R122, R125, R126, R130). -/
def Obligations.MoveStartAndShutterEdges : Prop :=
  (∀ (s : State) (t : Tube), s.inReset = false →
    let b := s.boat.get t
    let starts : Prop := b.pos ≠ none ∧ b.measured ≠ none ∧
      (s.tubeConfig t).boatN2Min ≤ ((s.gas.lines.get t).n2.readback).getD 0 ∧ (s.atm.get t).state ≠ .preflow ∧
      (s.atm.get t).state ≠ .ignite ∧ (s.atm.get t).state ≠ .lit ∧ b.holdFlag = false
    let edge (o c : Bool) (v : BoatRec) : State := { s.setBoat t v with
      lines := { s.lines with openLimit := if o then s.lines.openLimit.set t v.openLimit else s.lines.openLimit,
                              closedLimit := if c then s.lines.closedLimit.set t v.closedLimit
                                             else s.lines.closedLimit } }
    (b.state ≠ .waitCond → exec (.moveStart t) s = .next s) ∧
    (b.state = .waitCond → ¬ starts → exec (.moveStart t) s = .next (s.setBoat t { b with speedCmd := 0 })) ∧
    (b.state = .waitCond → starts → b.shutter = .opened → exec (.moveStart t) s =
      .next ((s.setBoat t { b with state := .travel }).after [.boatReport t])) ∧
    (b.state = .waitCond → starts → b.shutter ≠ .opened → b.openLimit = false → exec (.moveStart t) s =
      .next ((s.setBoat t { b with state := .shutterOpening, shutter := .opening, phaseTimer := 0,
                                   speedCmd := 0 }).after [.boatReport t])) ∧
    exec (.openLimitEdge t false) s = .next (edge true false { b with openLimit := false }) ∧
    exec (.closedLimitEdge t false) s = .next (edge false true { b with closedLimit := false }) ∧
    (∀ x, b.state = .shutterOpening → b.shutter = .opening → b.target = some x → b.pos ≠ some x → starts →
      exec (.openLimitEdge t true) s = .next ((edge true false
        { b with openLimit := true, shutter := .opened, state := .travel, remainder := 0 }).eventOf
        [.boatReport t])) ∧
    (∀ x, b.state = .shutterClosing → b.shutter = .closing → b.target = some x → b.pos = some x →
      exec (.closedLimitEdge t true) s = .next ((edge false true
        { b with closedLimit := true, shutter := .closed, state := .ready, target := none, failed := false,
                 closePending := false, speedCmd := 0 }).eventOf [.boatReport t]))) ∧
(∀ b : BoatRec, (b.openOutput = true ↔ b.shutter = .opening) ∧ (b.closeOutput = true ↔ b.shutter = .closing))

/-- SET_FAULT_POLICY writes a kind that is not fixed (index 0 of FIXED: log entry 39); CLEAR_FAULTS removes exactly
what may go (R140, R144, R145, R146). -/
def Obligations.PolicyAndClearingOfFaults : Prop :=
  (∀ (s : State) (tag : Byte), s.canTake = true →
    (∀ (kb eb lb ab : Byte) (k : FaultKind) (e : Bool) (a : PolicyAction),
      FaultKind.ofCode kb.toNat = some k → eb = (if e then 1 else 0) → 1 ≤ lb.toNat → lb.toNat ≤ 7 →
      PolicyAction.ofCode ab.toNat = some a →
      (k.fixed = true → exec (.setFaultPolicy tag kb eb lb ab) s =
        .next (s.replied (.setFaultPolicy kb eb lb ab) tag (.no .fixedKind 0))) ∧
      (k.fixed = false → ∃ n, exec (.setFaultPolicy tag kb eb lb ab) s = .next n ∧
        n = { s with faults := { s.faults with policy := n.faults.policy }, link := n.link } ∧
        n.faults.policyOf k = { enable := e, level := lb.toNat, action := a } ∧
        ∀ j, j ≠ k → n.faults.policyOf j = s.faults.policyOf j)) ∧
    (∀ (b : Byte) (t : Tube) (codes : List Byte), tubeField b = some t → codes.length ≤ 19 →
      (∀ c ∈ codes, 1 ≤ c.toNat ∧ c.toNat ≤ 19) →
      ∃ n, exec (.clearFaults tag b codes) s = .next n ∧
        n = { s with faults := { s.faults with entries := n.faults.entries, pointer := n.faults.pointer },
                     link := n.link } ∧
        (∀ u, u ≠ t → n.faults.entries.get u = s.faults.entries.get u ∧
          n.faults.pointer.get u = s.faults.pointer.get u) ∧
        (∀ k : FaultKind, let named : Prop := codes = [] ∨ ∃ c ∈ codes, c.toNat = k.code
          (named → s.condition t k = false → n.faults.entry? t k = none) ∧
          (¬ named ∨ s.condition t k = true → n.faults.entry? t k = s.faults.entry? t k) ∧
          (s.faults.pointer.get t = some k → (s.faults.entry? t k).isSome = true →
            (named → s.condition t k = false → n.faults.pointer.get t = none) ∧
            (¬ named ∨ s.condition t k = true → n.faults.pointer.get t = some k))) ∧
        (s.faults.pointer.get t = none → n.faults.pointer.get t = none))) ∧
(∀ (s : State) (tag kb eb lb ab : Byte), s.canTake = true →
    let refused (n : Nat) : Prop := exec (.setFaultPolicy tag kb eb lb ab) s =
      .next (s.replied (.setFaultPolicy kb eb lb ab) tag (.no .badField n))
    (kb.toNat = 0 ∨ 19 < kb.toNat → refused 1) ∧
    (1 ≤ kb.toNat → kb.toNat ≤ 19 → (1 < eb.toNat → refused 2) ∧
      (eb.toNat ≤ 1 → (lb.toNat = 0 ∨ 7 < lb.toNat → refused 3) ∧
        (1 ≤ lb.toNat → lb.toNat ≤ 7 → ab.toNat = 0 ∨ 4 < ab.toNat → refused 4)))) ∧
(∀ (s : State) (tag b : Byte) (pre post : List Byte) (c : Byte), s.canTake = true →
    (pre ++ c :: post).length ≤ 19 →
    let refused (n : Nat) : Prop := exec (.clearFaults tag b (pre ++ c :: post)) s =
      .next (s.replied (.clearFaults b (pre ++ c :: post)) tag (.no .badField n))
    (b.toNat = 0 ∨ 4 < b.toNat → refused 1) ∧
    (1 ≤ b.toNat → b.toNat ≤ 4 → (∀ d ∈ pre, 1 ≤ d.toNat ∧ d.toNat ≤ 19) → c.toNat = 0 ∨ 19 < c.toNat →
      refused (pre.length + 2)))

/-- A detection is graded, entered, logged, noticed and handed on (its wait during an abort or SAFE entry: log entry
10) (R10, R141, R142, R143, R146, R147, R151, R162). -/
def Obligations.DetectionIsGradedAndRecorded : Prop :=
  ∀ (c : Ctx) (d : Detection),
    let p := c.s.faults.policyOf d.kind
    let rs := c.s.runState d.tube
    let e := taskDetect d c
    let f := e.1.s.faults
    (rs = .offline ∨ p.enable = false → e = (c, [])) ∧
    (rs ≠ .offline → p.enable = true → c.s.faults.nextSeq < 4294967295 → c.s.faults.log.length ≤ 64 →
      ∃ ap : Applied,
        (p.level ≤ (c.s.run.get d.tube).mask → ap = .none) ∧
        ((c.s.run.get d.tube).mask < p.level →
          (p.action = .advisory → ap = .advisory) ∧ (p.action = .safe → ap = .safe) ∧
          (p.action = .hold → ap = if rs = .running ∨ rs = .holding then .hold else .none) ∧
          (p.action = .abort → ap = if rs = .running ∨ rs = .holding then .abort
            else if rs = .aborting then .escalated else .none)) ∧
        (f.entry? d.tube d.kind = some (match c.s.faults.entry? d.tube d.kind with
          | some old => { old with count := min 255 (old.count + 1), acted := old.acted || ap ≠ .none }
          | none => { count := 1, acted := ap ≠ .none, stamp := c.s.stamp })) ∧
        (f.pointer.get d.tube = if c.s.faults.pointer.get d.tube = none ∧
            (ap = .hold ∨ ap = .abort ∨ ap = .safe ∨ ap = .escalated) then some d.kind
          else c.s.faults.pointer.get d.tube) ∧
        (∃ r, f.log = (c.s.faults.log ++ [r]).drop (c.s.faults.log.length + 1 - 64) ∧ r.seq = c.s.faults.nextSeq ∧ r.tube = some d.tube ∧ r.kind = d.kind ∧
          r.level = p.level ∧ r.action = ap ∧ r.place = d.place ∧ r.measured = d.measured ∧ r.limit = d.limit ∧
          r.stamp = c.s.stamp ∧ r.tubeState = some rs ∧ r.mask = some (c.s.run.get d.tube).mask ∧
          r.listStep = if (c.s.run.get d.tube).recipe = none then none else match d.listStep with
            | some p => some p
            | none => some ((c.s.run.get d.tube).list, (c.s.run.get d.tube).step)) ∧
        (let noticed := c.s.link.queueNotice
            (.faultActed d.tube d.kind p.level ap rs c.s.faults.nextSeq c.s.stamp)
         e.1.s.link = if ap = .none then c.s.link else if c.serving then noticed else noticed.arbitrate) ∧
        f.nextSeq = c.s.faults.nextSeq + 1 ∧ f.policy = c.s.faults.policy ∧
        ((d.kind = .tcOpen ∨ d.kind = .overtemp ∨ d.kind = .interlockOpen) → ap = .safe →
          (e.1.s.thermal.get d.tube).inhibit = .fault) ∧
        (ap = .none ∨ ap = .advisory → e.2 = [] ∧ e.1.deferred = c.deferred) ∧
        (ap ≠ .none → ap ≠ .advisory →
          (c.busy.get d.tube = false → e.2 = [.action d.tube ap d.kind] ∧ e.1.deferred = c.deferred) ∧
          (c.busy.get d.tube = true → e.2 = [] ∧ e.1.deferred = c.deferred ++ [(d.tube, ap, d.kind)])) ∧
        e.1.s.run = c.s.run ∧ e.1.s.gas = c.s.gas ∧ e.1.s.boat = c.s.boat)

/-- BANK_LINE_EDGE raises an onset in every tube, SHED_ACTIVE writes one record for the bank; the log numbering wraps
at a writing (log entries 3, 36) (R141, R142, R143, R149, R150, R151). -/
def Obligations.BankLinesAndLogWrap : Prop :=
  ((∀ (s : State) (l : BankLine) (v : Bool), s.inReset = false →
    let edged : State := { s.setFaults (match l with
        | .hydrogen => { s.faults with hydrogen := v }
        | .interlock => { s.faults with interlock := v }
        | .exhaust => { s.faults with exhaust := v }) with
      lines := match l with
        | .hydrogen => { s.lines with hydrogen := v }
        | .interlock => { s.lines with interlock := v }
        | .exhaust => { s.lines with exhaust := v } }
    let onset : Prop := match l with
      | .hydrogen => s.faults.hydrogen = false ∧ v = true
      | .interlock => s.faults.interlock = true ∧ v = false
      | .exhaust => s.faults.exhaust = true ∧ v = false
    (s.config.locked = false ∨ ¬ onset → exec (.bankLineEdge l v) s = .next edged) ∧
    (s.config.locked = true → onset → exec (.bankLineEdge l v) s = .next (edged.eventOf [.bankDetect l])) ∧
    (s.faults.nextSeq ≠ 4294967295 → exec .logSequenceWrap s = .next s) ∧
    (s.faults.nextSeq = 4294967295 → let r := Config.wrapReport s.faults.wraps
      exec .logSequenceWrap s = .next
        ((s.setFaults { s.faults with wraps := s.faults.wraps + 1 }).eventOf
          [match r.kind with
            | .h2Detected => .bankDetect .hydrogen
            | .interlockOpen => .bankDetect .interlock
            | .exhaustLost => .bankDetect .exhaust
            | .shedActive => .shedDetect (r.measured.getD 0) (r.limit.getD 0)
            | k => .detect (detection r.tube k r.place r.measured r.limit)]))) ∧
(∀ (c : Ctx) (d : Detection), c.s.faults.nextSeq = 4294967295 →
    let f := (taskDetect d c).1.s.faults
    let recorded : Prop := c.s.runState d.tube ≠ .offline ∧ (c.s.faults.policyOf d.kind).enable = true
    (recorded → f.nextSeq = 1 ∧ ∃ r, f.log = [r] ∧ r.seq = 0 ∧ r.tube = some d.tube ∧ r.kind = d.kind) ∧
    (¬ recorded → f.nextSeq = 4294967295 ∧ f.log = c.s.faults.log))) ∧
(∀ (c : Ctx) (l : BankLine), taskBankDetect l c = (c, ([.t1, .t2, .t3, .t4] : List Tube).map fun t =>
    .detect (detection t (match l with
      | .hydrogen => .h2Detected
      | .interlock => .interlockOpen
      | .exhaust => .exhaustLost) none none none))) ∧
(∀ (c : Ctx) (measured limit : Nat),
    let p := c.s.faults.policyOf .shedActive
    let applied (t : Tube) : Applied :=
      let rs := c.s.runState t
      if p.level ≤ (c.s.run.get t).mask then .none else match p.action with
        | .advisory => .advisory
        | .safe => .safe
        | .hold => if rs = .running ∨ rs = .holding then .hold else .none
        | .abort => if rs = .running ∨ rs = .holding then .abort else if rs = .aborting then .escalated else .none
    let rank : Applied → Nat := fun a => match a with
      | .none => 0
      | .advisory => 1
      | .hold => 2
      | .abort => 3
      | .safe => 4
      | .escalated => 5
    let tubes : List Tube := ([.t1, .t2, .t3, .t4] : List Tube).filter fun t =>
      p.enable && decide (c.s.runState t ≠ .offline)
    let record (a : Applied) : LogRec :=
      { seq := c.s.faults.nextSeq, stamp := c.s.stamp, tube := none, kind := .shedActive, level := p.level, action := a,
        tubeState := none, mask := none, listStep := none, place := none, measured := some measured,
        limit := some limit }
    let e := taskShedDetect measured limit c
    (tubes = [] → e = (c, [])) ∧
    (tubes ≠ [] → c.s.faults.nextSeq < 4294967295 → c.s.faults.log.length ≤ 64 →
      let f := e.1.s.faults
      e.2 = tubes.map (fun t =>
        .shedActed t (applied t) p.level (c.s.runState t) c.s.faults.nextSeq c.s.stamp) ∧
      e.1 = c.put (c.s.setFaults f) ∧
      f = { c.s.faults with entries := f.entries, pointer := f.pointer, log := f.log,
                            nextSeq := c.s.faults.nextSeq + 1 } ∧
      (∃ a, (∃ t ∈ tubes, applied t = a) ∧ (∀ t ∈ tubes, rank (applied t) ≤ rank a) ∧
        f.log = (c.s.faults.log ++ [record a]).drop (c.s.faults.log.length + 1 - 64)) ∧
      (∀ t ∈ tubes, f.entry? t .shedActive = some (match c.s.faults.entry? t .shedActive with
          | some old => { old with count := min 255 (old.count + 1), acted := old.acted || decide (applied t ≠ .none) }
          | none => { count := 1, acted := decide (applied t ≠ .none), stamp := c.s.stamp }) ∧
        f.pointer.get t = if c.s.faults.pointer.get t = none ∧
            (applied t ≠ .none ∧ applied t ≠ .advisory) then some .shedActive else c.s.faults.pointer.get t) ∧
      (∀ t, t ∉ tubes → f.entry? t .shedActive = c.s.faults.entry? t .shedActive ∧
        f.pointer.get t = c.s.faults.pointer.get t) ∧
      (∀ t k, k ≠ .shedActive → f.entry? t k = c.s.faults.entry? t k))) ∧
(∀ (c : Ctx) (t : Tube) (a : Applied) (level : Nat) (rs : RunState) (seq stamp : Nat),
    let e := taskShedActed t a level rs seq stamp c
    let noticed := c.s.link.queueNotice (.faultActed t .shedActive level a rs seq stamp)
    e.1.s = c.s.setLink (if a = .none then c.s.link else if c.serving then noticed else noticed.arbitrate) ∧
    (a = .none ∨ a = .advisory → e.2 = [] ∧ e.1.deferred = c.deferred) ∧
    (a ≠ .none → a ≠ .advisory →
      (c.busy.get t = false → e.2 = [.action t a .shedActive] ∧ e.1.deferred = c.deferred) ∧
      (c.busy.get t = true → e.2 = [] ∧ e.1.deferred = c.deferred ++ [(t, a, .shedActive)])))

/-- Every step keeps the policy of the fixed kinds, the order and bound of the fault log, and the first-fault pointers
(R139, R140, R146, R151). -/
def Obligations.FixedPolicyAndLogStaySound : Prop :=
  (∀ s n : State, s.fixedPolicyKept → s.faults.logSound → step s = .next n → n.fixedPolicyKept ∧ n.faults.logSound) ∧
(∀ s n : State, s.pointersSound → step s = .next n → n.pointersSound)
end

