-- ==== Sys2Proof/Laws/State.lean ====
section
/-! SUPPORT. One lemma per field per update of the state, and the laws of the containers. -/

namespace Sys2Proof.Machine

/-! ### PerTube -/

@[simp] theorem PerTube.get_set_same {α : Type} (p : PerTube α) (i : Tube) (v : α) : (p.set i v).get i = v := by
  cases i <;> rfl

theorem PerTube.get_set_other {α : Type} (p : PerTube α) {i j : Tube} (h : j ≠ i) (v : α) :
    (p.set i v).get j = p.get j := by
  cases i <;> cases j <;> first | rfl | exact absurd rfl h

@[simp] theorem PerTube.get_all {α : Type} (v : α) (i : Tube) : (PerTube.all v).get i = v := by
  cases i <;> rfl

@[simp] theorem PerTube.set_get {α : Type} (p : PerTube α) (i : Tube) : p.set i (p.get i) = p := by
  cases i <;> rfl

@[simp] theorem PerTube.set_set {α : Type} (p : PerTube α) (i : Tube) (v w : α) : (p.set i v).set i w = p.set i w := by
  cases i <;> rfl

theorem PerTube.ext_get {α : Type} {p q : PerTube α} (h : ∀ i, p.get i = q.get i) : p = q := by
  cases p; cases q; simp only [PerTube.mk.injEq]
  exact ⟨h .t1, h .t2, h .t3, h .t4⟩

/-! ### PerZone -/

@[simp] theorem PerZone.get_set_same {α : Type} (p : PerZone α) (i : Zone) (v : α) : (p.set i v).get i = v := by
  cases i <;> rfl

theorem PerZone.get_set_other {α : Type} (p : PerZone α) {i j : Zone} (h : j ≠ i) (v : α) :
    (p.set i v).get j = p.get j := by
  cases i <;> cases j <;> first | rfl | exact absurd rfl h

@[simp] theorem PerZone.get_all {α : Type} (v : α) (i : Zone) : (PerZone.all v).get i = v := by
  cases i <;> rfl

@[simp] theorem PerZone.set_get {α : Type} (p : PerZone α) (i : Zone) : p.set i (p.get i) = p := by
  cases i <;> rfl

@[simp] theorem PerZone.set_set {α : Type} (p : PerZone α) (i : Zone) (v w : α) : (p.set i v).set i w = p.set i w := by
  cases i <;> rfl

theorem PerZone.ext_get {α : Type} {p q : PerZone α} (h : ∀ i, p.get i = q.get i) : p = q := by
  cases p; cases q; simp only [PerZone.mk.injEq]
  exact ⟨h .z1, h .z2, h .z3, h .z4, h .z5⟩

/-! ### PerLine -/

@[simp] theorem PerLine.get_set_same {α : Type} (p : PerLine α) (i : GasLine) (v : α) : (p.set i v).get i = v := by
  cases i <;> rfl

theorem PerLine.get_set_other {α : Type} (p : PerLine α) {i j : GasLine} (h : j ≠ i) (v : α) :
    (p.set i v).get j = p.get j := by
  cases i <;> cases j <;> first | rfl | exact absurd rfl h

@[simp] theorem PerLine.get_all {α : Type} (v : α) (i : GasLine) : (PerLine.all v).get i = v := by
  cases i <;> rfl

@[simp] theorem PerLine.set_get {α : Type} (p : PerLine α) (i : GasLine) : p.set i (p.get i) = p := by
  cases i <;> rfl

@[simp] theorem PerLine.set_set {α : Type} (p : PerLine α) (i : GasLine) (v w : α) : (p.set i v).set i w = p.set i w := by
  cases i <;> rfl

theorem PerLine.ext_get {α : Type} {p q : PerLine α} (h : ∀ i, p.get i = q.get i) : p = q := by
  cases p; cases q; simp only [PerLine.mk.injEq]
  exact ⟨h .n2, h .o2, h .h2, h .aux⟩

/-! ### PerClass -/

@[simp] theorem PerClass.get_set_same {α : Type} (p : PerClass α) (i : PowerClass) (v : α) : (p.set i v).get i = v := by
  cases i <;> rfl

theorem PerClass.get_set_other {α : Type} (p : PerClass α) {i j : PowerClass} (h : j ≠ i) (v : α) :
    (p.set i v).get j = p.get j := by
  cases i <;> cases j <;> first | rfl | exact absurd rfl h

@[simp] theorem PerClass.get_all {α : Type} (v : α) (i : PowerClass) : (PerClass.all v).get i = v := by
  cases i <;> rfl

@[simp] theorem PerClass.set_get {α : Type} (p : PerClass α) (i : PowerClass) : p.set i (p.get i) = p := by
  cases i <;> rfl

@[simp] theorem PerClass.set_set {α : Type} (p : PerClass α) (i : PowerClass) (v w : α) : (p.set i v).set i w = p.set i w := by
  cases i <;> rfl

theorem PerClass.ext_get {α : Type} {p q : PerClass α} (h : ∀ i, p.get i = q.get i) : p = q := by
  cases p; cases q; simp only [PerClass.mk.injEq]
  exact ⟨h .soak, h .ramp, h .other⟩

/-! ### State -/

@[simp] theorem State.setRun_run (s : State) (t : Tube) (r : RunRec) : (s.setRun t r).run = s.run.set t r := rfl
@[simp] theorem State.setRun_store (s : State) (t : Tube) (r : RunRec) : (s.setRun t r).store = s.store := rfl
@[simp] theorem State.setRun_thermal (s : State) (t : Tube) (r : RunRec) : (s.setRun t r).thermal = s.thermal := rfl
@[simp] theorem State.setRun_banks (s : State) (t : Tube) (r : RunRec) : (s.setRun t r).banks = s.banks := rfl
@[simp] theorem State.setRun_alloc (s : State) (t : Tube) (r : RunRec) : (s.setRun t r).alloc = s.alloc := rfl
@[simp] theorem State.setRun_gas (s : State) (t : Tube) (r : RunRec) : (s.setRun t r).gas = s.gas := rfl
@[simp] theorem State.setRun_atm (s : State) (t : Tube) (r : RunRec) : (s.setRun t r).atm = s.atm := rfl
@[simp] theorem State.setRun_boat (s : State) (t : Tube) (r : RunRec) : (s.setRun t r).boat = s.boat := rfl
@[simp] theorem State.setRun_faults (s : State) (t : Tube) (r : RunRec) : (s.setRun t r).faults = s.faults := rfl
@[simp] theorem State.setRun_config (s : State) (t : Tube) (r : RunRec) : (s.setRun t r).config = s.config := rfl
@[simp] theorem State.setRun_time (s : State) (t : Tube) (r : RunRec) : (s.setRun t r).time = s.time := rfl
@[simp] theorem State.setRun_link (s : State) (t : Tube) (r : RunRec) : (s.setRun t r).link = s.link := rfl
@[simp] theorem State.setRun_lines (s : State) (t : Tube) (r : RunRec) : (s.setRun t r).lines = s.lines := rfl
@[simp] theorem State.setRun_inReset (s : State) (t : Tube) (r : RunRec) : (s.setRun t r).inReset = s.inReset := rfl
@[simp] theorem State.setRun_pending (s : State) (t : Tube) (r : RunRec) : (s.setRun t r).pending = s.pending := rfl

@[simp] theorem State.setThermal_run (s : State) (t : Tube) (r : ThermalRec) : (s.setThermal t r).run = s.run := rfl
@[simp] theorem State.setThermal_store (s : State) (t : Tube) (r : ThermalRec) : (s.setThermal t r).store = s.store := rfl
@[simp] theorem State.setThermal_thermal (s : State) (t : Tube) (r : ThermalRec) : (s.setThermal t r).thermal = s.thermal.set t r := rfl
@[simp] theorem State.setThermal_banks (s : State) (t : Tube) (r : ThermalRec) : (s.setThermal t r).banks = s.banks := rfl
@[simp] theorem State.setThermal_alloc (s : State) (t : Tube) (r : ThermalRec) : (s.setThermal t r).alloc = s.alloc := rfl
@[simp] theorem State.setThermal_gas (s : State) (t : Tube) (r : ThermalRec) : (s.setThermal t r).gas = s.gas := rfl
@[simp] theorem State.setThermal_atm (s : State) (t : Tube) (r : ThermalRec) : (s.setThermal t r).atm = s.atm := rfl
@[simp] theorem State.setThermal_boat (s : State) (t : Tube) (r : ThermalRec) : (s.setThermal t r).boat = s.boat := rfl
@[simp] theorem State.setThermal_faults (s : State) (t : Tube) (r : ThermalRec) : (s.setThermal t r).faults = s.faults := rfl
@[simp] theorem State.setThermal_config (s : State) (t : Tube) (r : ThermalRec) : (s.setThermal t r).config = s.config := rfl
@[simp] theorem State.setThermal_time (s : State) (t : Tube) (r : ThermalRec) : (s.setThermal t r).time = s.time := rfl
@[simp] theorem State.setThermal_link (s : State) (t : Tube) (r : ThermalRec) : (s.setThermal t r).link = s.link := rfl
@[simp] theorem State.setThermal_lines (s : State) (t : Tube) (r : ThermalRec) : (s.setThermal t r).lines = s.lines := rfl
@[simp] theorem State.setThermal_inReset (s : State) (t : Tube) (r : ThermalRec) : (s.setThermal t r).inReset = s.inReset := rfl
@[simp] theorem State.setThermal_pending (s : State) (t : Tube) (r : ThermalRec) : (s.setThermal t r).pending = s.pending := rfl

@[simp] theorem State.setAtm_run (s : State) (t : Tube) (r : AtmRec) : (s.setAtm t r).run = s.run := rfl
@[simp] theorem State.setAtm_store (s : State) (t : Tube) (r : AtmRec) : (s.setAtm t r).store = s.store := rfl
@[simp] theorem State.setAtm_thermal (s : State) (t : Tube) (r : AtmRec) : (s.setAtm t r).thermal = s.thermal := rfl
@[simp] theorem State.setAtm_banks (s : State) (t : Tube) (r : AtmRec) : (s.setAtm t r).banks = s.banks := rfl
@[simp] theorem State.setAtm_alloc (s : State) (t : Tube) (r : AtmRec) : (s.setAtm t r).alloc = s.alloc := rfl
@[simp] theorem State.setAtm_gas (s : State) (t : Tube) (r : AtmRec) : (s.setAtm t r).gas = s.gas := rfl
@[simp] theorem State.setAtm_atm (s : State) (t : Tube) (r : AtmRec) : (s.setAtm t r).atm = s.atm.set t r := rfl
@[simp] theorem State.setAtm_boat (s : State) (t : Tube) (r : AtmRec) : (s.setAtm t r).boat = s.boat := rfl
@[simp] theorem State.setAtm_faults (s : State) (t : Tube) (r : AtmRec) : (s.setAtm t r).faults = s.faults := rfl
@[simp] theorem State.setAtm_config (s : State) (t : Tube) (r : AtmRec) : (s.setAtm t r).config = s.config := rfl
@[simp] theorem State.setAtm_time (s : State) (t : Tube) (r : AtmRec) : (s.setAtm t r).time = s.time := rfl
@[simp] theorem State.setAtm_link (s : State) (t : Tube) (r : AtmRec) : (s.setAtm t r).link = s.link := rfl
@[simp] theorem State.setAtm_lines (s : State) (t : Tube) (r : AtmRec) : (s.setAtm t r).lines = s.lines := rfl
@[simp] theorem State.setAtm_inReset (s : State) (t : Tube) (r : AtmRec) : (s.setAtm t r).inReset = s.inReset := rfl
@[simp] theorem State.setAtm_pending (s : State) (t : Tube) (r : AtmRec) : (s.setAtm t r).pending = s.pending := rfl

@[simp] theorem State.setBoat_run (s : State) (t : Tube) (r : BoatRec) : (s.setBoat t r).run = s.run := rfl
@[simp] theorem State.setBoat_store (s : State) (t : Tube) (r : BoatRec) : (s.setBoat t r).store = s.store := rfl
@[simp] theorem State.setBoat_thermal (s : State) (t : Tube) (r : BoatRec) : (s.setBoat t r).thermal = s.thermal := rfl
@[simp] theorem State.setBoat_banks (s : State) (t : Tube) (r : BoatRec) : (s.setBoat t r).banks = s.banks := rfl
@[simp] theorem State.setBoat_alloc (s : State) (t : Tube) (r : BoatRec) : (s.setBoat t r).alloc = s.alloc := rfl
@[simp] theorem State.setBoat_gas (s : State) (t : Tube) (r : BoatRec) : (s.setBoat t r).gas = s.gas := rfl
@[simp] theorem State.setBoat_atm (s : State) (t : Tube) (r : BoatRec) : (s.setBoat t r).atm = s.atm := rfl
@[simp] theorem State.setBoat_boat (s : State) (t : Tube) (r : BoatRec) : (s.setBoat t r).boat = s.boat.set t r := rfl
@[simp] theorem State.setBoat_faults (s : State) (t : Tube) (r : BoatRec) : (s.setBoat t r).faults = s.faults := rfl
@[simp] theorem State.setBoat_config (s : State) (t : Tube) (r : BoatRec) : (s.setBoat t r).config = s.config := rfl
@[simp] theorem State.setBoat_time (s : State) (t : Tube) (r : BoatRec) : (s.setBoat t r).time = s.time := rfl
@[simp] theorem State.setBoat_link (s : State) (t : Tube) (r : BoatRec) : (s.setBoat t r).link = s.link := rfl
@[simp] theorem State.setBoat_lines (s : State) (t : Tube) (r : BoatRec) : (s.setBoat t r).lines = s.lines := rfl
@[simp] theorem State.setBoat_inReset (s : State) (t : Tube) (r : BoatRec) : (s.setBoat t r).inReset = s.inReset := rfl
@[simp] theorem State.setBoat_pending (s : State) (t : Tube) (r : BoatRec) : (s.setBoat t r).pending = s.pending := rfl

@[simp] theorem State.setGas_run (s : State) (r : Gas) : (s.setGas r).run = s.run := rfl
@[simp] theorem State.setGas_store (s : State) (r : Gas) : (s.setGas r).store = s.store := rfl
@[simp] theorem State.setGas_thermal (s : State) (r : Gas) : (s.setGas r).thermal = s.thermal := rfl
@[simp] theorem State.setGas_banks (s : State) (r : Gas) : (s.setGas r).banks = s.banks := rfl
@[simp] theorem State.setGas_alloc (s : State) (r : Gas) : (s.setGas r).alloc = s.alloc := rfl
@[simp] theorem State.setGas_gas (s : State) (r : Gas) : (s.setGas r).gas = r := rfl
@[simp] theorem State.setGas_atm (s : State) (r : Gas) : (s.setGas r).atm = s.atm := rfl
@[simp] theorem State.setGas_boat (s : State) (r : Gas) : (s.setGas r).boat = s.boat := rfl
@[simp] theorem State.setGas_faults (s : State) (r : Gas) : (s.setGas r).faults = s.faults := rfl
@[simp] theorem State.setGas_config (s : State) (r : Gas) : (s.setGas r).config = s.config := rfl
@[simp] theorem State.setGas_time (s : State) (r : Gas) : (s.setGas r).time = s.time := rfl
@[simp] theorem State.setGas_link (s : State) (r : Gas) : (s.setGas r).link = s.link := rfl
@[simp] theorem State.setGas_lines (s : State) (r : Gas) : (s.setGas r).lines = s.lines := rfl
@[simp] theorem State.setGas_inReset (s : State) (r : Gas) : (s.setGas r).inReset = s.inReset := rfl
@[simp] theorem State.setGas_pending (s : State) (r : Gas) : (s.setGas r).pending = s.pending := rfl

@[simp] theorem State.setFaults_run (s : State) (r : Faults) : (s.setFaults r).run = s.run := rfl
@[simp] theorem State.setFaults_store (s : State) (r : Faults) : (s.setFaults r).store = s.store := rfl
@[simp] theorem State.setFaults_thermal (s : State) (r : Faults) : (s.setFaults r).thermal = s.thermal := rfl
@[simp] theorem State.setFaults_banks (s : State) (r : Faults) : (s.setFaults r).banks = s.banks := rfl
@[simp] theorem State.setFaults_alloc (s : State) (r : Faults) : (s.setFaults r).alloc = s.alloc := rfl
@[simp] theorem State.setFaults_gas (s : State) (r : Faults) : (s.setFaults r).gas = s.gas := rfl
@[simp] theorem State.setFaults_atm (s : State) (r : Faults) : (s.setFaults r).atm = s.atm := rfl
@[simp] theorem State.setFaults_boat (s : State) (r : Faults) : (s.setFaults r).boat = s.boat := rfl
@[simp] theorem State.setFaults_faults (s : State) (r : Faults) : (s.setFaults r).faults = r := rfl
@[simp] theorem State.setFaults_config (s : State) (r : Faults) : (s.setFaults r).config = s.config := rfl
@[simp] theorem State.setFaults_time (s : State) (r : Faults) : (s.setFaults r).time = s.time := rfl
@[simp] theorem State.setFaults_link (s : State) (r : Faults) : (s.setFaults r).link = s.link := rfl
@[simp] theorem State.setFaults_lines (s : State) (r : Faults) : (s.setFaults r).lines = s.lines := rfl
@[simp] theorem State.setFaults_inReset (s : State) (r : Faults) : (s.setFaults r).inReset = s.inReset := rfl
@[simp] theorem State.setFaults_pending (s : State) (r : Faults) : (s.setFaults r).pending = s.pending := rfl

@[simp] theorem Faults.tookReport_policy (f : Faults) : f.tookReport.policy = f.policy := rfl
@[simp] theorem Faults.tookReport_entries (f : Faults) : f.tookReport.entries = f.entries := rfl
@[simp] theorem Faults.tookReport_pointer (f : Faults) : f.tookReport.pointer = f.pointer := rfl
@[simp] theorem Faults.tookReport_hydrogen (f : Faults) : f.tookReport.hydrogen = f.hydrogen := rfl
@[simp] theorem Faults.tookReport_interlock (f : Faults) : f.tookReport.interlock = f.interlock := rfl
@[simp] theorem Faults.tookReport_exhaust (f : Faults) : f.tookReport.exhaust = f.exhaust := rfl
@[simp] theorem Faults.tookReport_log (f : Faults) : f.tookReport.log = f.log := rfl
@[simp] theorem Faults.tookReport_nextSeq (f : Faults) : f.tookReport.nextSeq = f.nextSeq := rfl
@[simp] theorem Faults.tookReport_wraps (f : Faults) : f.tookReport.wraps = f.wraps + 1 := rfl

@[simp] theorem State.setLink_run (s : State) (r : Link) : (s.setLink r).run = s.run := rfl
@[simp] theorem State.setLink_store (s : State) (r : Link) : (s.setLink r).store = s.store := rfl
@[simp] theorem State.setLink_thermal (s : State) (r : Link) : (s.setLink r).thermal = s.thermal := rfl
@[simp] theorem State.setLink_banks (s : State) (r : Link) : (s.setLink r).banks = s.banks := rfl
@[simp] theorem State.setLink_alloc (s : State) (r : Link) : (s.setLink r).alloc = s.alloc := rfl
@[simp] theorem State.setLink_gas (s : State) (r : Link) : (s.setLink r).gas = s.gas := rfl
@[simp] theorem State.setLink_atm (s : State) (r : Link) : (s.setLink r).atm = s.atm := rfl
@[simp] theorem State.setLink_boat (s : State) (r : Link) : (s.setLink r).boat = s.boat := rfl
@[simp] theorem State.setLink_faults (s : State) (r : Link) : (s.setLink r).faults = s.faults := rfl
@[simp] theorem State.setLink_config (s : State) (r : Link) : (s.setLink r).config = s.config := rfl
@[simp] theorem State.setLink_time (s : State) (r : Link) : (s.setLink r).time = s.time := rfl
@[simp] theorem State.setLink_link (s : State) (r : Link) : (s.setLink r).link = r := rfl
@[simp] theorem State.setLink_lines (s : State) (r : Link) : (s.setLink r).lines = s.lines := rfl
@[simp] theorem State.setLink_inReset (s : State) (r : Link) : (s.setLink r).inReset = s.inReset := rfl
@[simp] theorem State.setLink_pending (s : State) (r : Link) : (s.setLink r).pending = s.pending := rfl

@[simp] theorem State.setStore_run (s : State) (r : Store) : (s.setStore r).run = s.run := rfl
@[simp] theorem State.setStore_store (s : State) (r : Store) : (s.setStore r).store = r := rfl
@[simp] theorem State.setStore_thermal (s : State) (r : Store) : (s.setStore r).thermal = s.thermal := rfl
@[simp] theorem State.setStore_banks (s : State) (r : Store) : (s.setStore r).banks = s.banks := rfl
@[simp] theorem State.setStore_alloc (s : State) (r : Store) : (s.setStore r).alloc = s.alloc := rfl
@[simp] theorem State.setStore_gas (s : State) (r : Store) : (s.setStore r).gas = s.gas := rfl
@[simp] theorem State.setStore_atm (s : State) (r : Store) : (s.setStore r).atm = s.atm := rfl
@[simp] theorem State.setStore_boat (s : State) (r : Store) : (s.setStore r).boat = s.boat := rfl
@[simp] theorem State.setStore_faults (s : State) (r : Store) : (s.setStore r).faults = s.faults := rfl
@[simp] theorem State.setStore_config (s : State) (r : Store) : (s.setStore r).config = s.config := rfl
@[simp] theorem State.setStore_time (s : State) (r : Store) : (s.setStore r).time = s.time := rfl
@[simp] theorem State.setStore_link (s : State) (r : Store) : (s.setStore r).link = s.link := rfl
@[simp] theorem State.setStore_lines (s : State) (r : Store) : (s.setStore r).lines = s.lines := rfl
@[simp] theorem State.setStore_inReset (s : State) (r : Store) : (s.setStore r).inReset = s.inReset := rfl
@[simp] theorem State.setStore_pending (s : State) (r : Store) : (s.setStore r).pending = s.pending := rfl

@[simp] theorem State.setAlloc_run (s : State) (r : Alloc) : (s.setAlloc r).run = s.run := rfl
@[simp] theorem State.setAlloc_store (s : State) (r : Alloc) : (s.setAlloc r).store = s.store := rfl
@[simp] theorem State.setAlloc_thermal (s : State) (r : Alloc) : (s.setAlloc r).thermal = s.thermal := rfl
@[simp] theorem State.setAlloc_banks (s : State) (r : Alloc) : (s.setAlloc r).banks = s.banks := rfl
@[simp] theorem State.setAlloc_alloc (s : State) (r : Alloc) : (s.setAlloc r).alloc = r := rfl
@[simp] theorem State.setAlloc_gas (s : State) (r : Alloc) : (s.setAlloc r).gas = s.gas := rfl
@[simp] theorem State.setAlloc_atm (s : State) (r : Alloc) : (s.setAlloc r).atm = s.atm := rfl
@[simp] theorem State.setAlloc_boat (s : State) (r : Alloc) : (s.setAlloc r).boat = s.boat := rfl
@[simp] theorem State.setAlloc_faults (s : State) (r : Alloc) : (s.setAlloc r).faults = s.faults := rfl
@[simp] theorem State.setAlloc_config (s : State) (r : Alloc) : (s.setAlloc r).config = s.config := rfl
@[simp] theorem State.setAlloc_time (s : State) (r : Alloc) : (s.setAlloc r).time = s.time := rfl
@[simp] theorem State.setAlloc_link (s : State) (r : Alloc) : (s.setAlloc r).link = s.link := rfl
@[simp] theorem State.setAlloc_lines (s : State) (r : Alloc) : (s.setAlloc r).lines = s.lines := rfl
@[simp] theorem State.setAlloc_inReset (s : State) (r : Alloc) : (s.setAlloc r).inReset = s.inReset := rfl
@[simp] theorem State.setAlloc_pending (s : State) (r : Alloc) : (s.setAlloc r).pending = s.pending := rfl

/-! ### Context of an event -/

@[simp] theorem Ctx.put_s (c : Ctx) (s : State) : (c.put s).s = s := rfl
@[simp] theorem Ctx.put_busy (c : Ctx) (s : State) : (c.put s).busy = c.busy := rfl
@[simp] theorem Ctx.put_rampSet (c : Ctx) (s : State) : (c.put s).rampSet = c.rampSet := rfl
@[simp] theorem Ctx.put_deferred (c : Ctx) (s : State) : (c.put s).deferred = c.deferred := rfl
@[simp] theorem Ctx.put_serving (c : Ctx) (s : State) : (c.put s).serving = c.serving := rfl
@[simp] theorem Ctx.setBusy_s (c : Ctx) (t : Tube) (b : Bool) : (c.setBusy t b).s = c.s := rfl
@[simp] theorem Ctx.setBusy_busy (c : Ctx) (t : Tube) (b : Bool) : (c.setBusy t b).busy = c.busy.set t b := rfl
@[simp] theorem Ctx.setBusy_rampSet (c : Ctx) (t : Tube) (b : Bool) : (c.setBusy t b).rampSet = c.rampSet := rfl
@[simp] theorem Ctx.setBusy_deferred (c : Ctx) (t : Tube) (b : Bool) : (c.setBusy t b).deferred = c.deferred := rfl
@[simp] theorem Ctx.setBusy_serving (c : Ctx) (t : Tube) (b : Bool) : (c.setBusy t b).serving = c.serving := rfl
@[simp] theorem Ctx.markRamps_s (c : Ctx) (t : Tube) (b : Bool) : (c.markRamps t b).s = c.s := rfl
@[simp] theorem Ctx.markRamps_busy (c : Ctx) (t : Tube) (b : Bool) : (c.markRamps t b).busy = c.busy := rfl
@[simp] theorem Ctx.markRamps_rampSet (c : Ctx) (t : Tube) (b : Bool) :
    (c.markRamps t b).rampSet = c.rampSet.set t (c.rampSet.get t || b) := rfl
@[simp] theorem Ctx.markRamps_deferred (c : Ctx) (t : Tube) (b : Bool) : (c.markRamps t b).deferred = c.deferred := rfl
@[simp] theorem Ctx.markRamps_serving (c : Ctx) (t : Tube) (b : Bool) : (c.markRamps t b).serving = c.serving := rfl
@[simp] theorem Ctx.start_s (s : State) (b : Bool) : (Ctx.start s b).s = s := rfl
@[simp] theorem Ctx.start_busy (s : State) (b : Bool) : (Ctx.start s b).busy = PerTube.all false := rfl
@[simp] theorem Ctx.start_rampSet (s : State) (b : Bool) : (Ctx.start s b).rampSet = PerTube.all false := rfl
@[simp] theorem Ctx.start_deferred (s : State) (b : Bool) : (Ctx.start s b).deferred = [] := rfl
@[simp] theorem Ctx.start_serving (s : State) (b : Bool) : (Ctx.start s b).serving = b := rfl

end Sys2Proof.Machine
end

