-- ==== Sys2Proof/Laws/Ops.lean ====
section
/-! SUPPORT. What the shared operations can do, said once: the chain of messages of an event, the transmit arbiter and
the reply queue, the recipe slots, the arbiter's grants, the reading and writing of payload values. -/

namespace Sys2Proof.Machine

/-! ### The chain of messages -/

@[simp] theorem runTasks_nil (n : Nat) (c : Ctx) : runTasks n [] c = c := by cases n <;> rfl

@[simp] theorem runTasks_cons (n : Nat) (k : Task) (ks : List Task) (c : Ctx) :
    runTasks (n + 1) (k :: ks) c = runTasks n ((handle k c).2 ++ ks) (handle k c).1 := rfl

/-- What every message keeps, the chain keeps. -/
theorem runTasks_keeps {P : Ctx → Prop} (h : ∀ k c, P c → P (handle k c).1) :
    ∀ n ks c, P c → P (runTasks n ks c) := by
  intro n
  induction n with
  | zero => intro ks c hc; cases ks <;> exact hc
  | succ n ih =>
    intro ks c hc
    cases ks with
    | nil => exact hc
    | cons k ks => exact ih _ _ (h k c hc)

/-- What every message keeps together with the messages that wait, the chain keeps. -/
theorem runTasks_keeps_with {P : Ctx → List Task → Prop}
    (h : ∀ k ks c, P c (k :: ks) → P (handle k c).1 ((handle k c).2 ++ ks)) :
    ∀ n ks c, P c ks → ∃ rest, P (runTasks n ks c) rest := by
  intro n
  induction n with
  | zero => intro ks c hc; cases ks with
    | nil => exact ⟨_, hc⟩
    | cons k ks => exact ⟨_, hc⟩
  | succ n ih =>
    intro ks c hc
    cases ks with
    | nil => exact ⟨_, hc⟩
    | cons k ks => exact ih _ _ (h k ks c hc)

/-- An event keeps what its beginning establishes and every message keeps. -/
theorem State.event_keeps {P : Ctx → Prop} (h : ∀ k c, P c → P (handle k c).1) {s : State}
    {first : Ctx → Ctx × List Task} (hf : P (first (Ctx.start s false)).1) :
    ∃ c, P c ∧ s.event first = c.s := ⟨_, runTasks_keeps h _ _ _ hf, rfl⟩

/-- The event of a request keeps what its beginning establishes and every message keeps. -/
theorem State.serving_keeps {P : Ctx → Prop} (h : ∀ k c, P c → P (handle k c).1) {s : State}
    {first : Ctx → Ctx × List Task} (hf : P (first (Ctx.start s true)).1) :
    ∃ c, P c ∧ s.serving first = c.s := ⟨_, runTasks_keeps h _ _ _ hf, rfl⟩

/-! ### Commands in and out of reset -/

theorem State.act_eq {s : State} (h : s.inReset = false) (f : State → State) : s.act f = .next (f s) := by
  simp [State.act, h]

theorem State.act_held {s : State} (h : s.inReset = true) (f : State → State) : s.act f = .next s := by
  simp [State.act, h]

/-- The event that begins with one message is that message and then its chain. -/
theorem State.eventOf_single (s : State) (k : Task) : s.eventOf [k] =
    (runTasks (Config.cascadeBound - 1) ((handle k (Ctx.start s false)).2 ++ []) (handle k (Ctx.start s false)).1).s :=
  rfl

/-! ### The transmit arbiter -/

theorem Link.arbitrate_busy {l : Link} {o : Outgoing} (h : l.tx = some o) : l.arbitrate = l := by
  simp [Link.arbitrate, h]

theorem Link.arbitrate_idle_reply {l : Link} {r : Reply} {rs : List Reply} (h : l.tx = none)
    (hr : l.replies = r :: rs) : l.arbitrate = { l with tx := some (.reply r), replies := rs } := by
  simp [Link.arbitrate, h, hr]

/-- The arbiter touches the transmitter, the reply queue and the notice queue only. -/
theorem Link.arbitrate_frame (l : Link) : l.arbitrate.requests = l.requests ∧ l.arbitrate.asm = l.asm ∧
    l.arbitrate.asmLength = l.asmLength ∧ l.arbitrate.asmBytes = l.asmBytes ∧ l.arbitrate.lost = l.lost ∧
    l.arbitrate.enables = l.enables ∧ l.arbitrate.fastRate = l.fastRate ∧ l.arbitrate.restarting = l.restarting := by
  cases l with
  | mk asm al ab req rep nots lost en tx fr re =>
    cases tx <;> cases rep <;> cases nots <;> simp [Link.arbitrate]

@[simp] theorem Link.placeReply_requests (l : Link) (r : Reply) : (l.placeReply r).requests = l.requests :=
  (Link.arbitrate_frame _).1

@[simp] theorem Link.placeReply_restarting (l : Link) (r : Reply) : (l.placeReply r).restarting = l.restarting :=
  (Link.arbitrate_frame _).2.2.2.2.2.2.2

/-! ### Recipe slots -/

@[simp] theorem Store.recipe?_setSlot_same (st : Store) (i : Fin 16) (r : Option Recipe) :
    (st.setSlot i r).recipe? i = r := by
  simp [Store.recipe?, Store.setSlot]

theorem Store.recipe?_setSlot_other (st : Store) {i j : Fin 16} (h : j ≠ i) (r : Option Recipe) :
    (st.setSlot i r).recipe? j = st.recipe? j := by
  have : (i : Nat) ≠ (j : Nat) := fun e => h (Fin.ext e.symm)
  simp [Store.recipe?, Store.setSlot, this]

/-! ### The arbiter -/

/-- A written line holds the command. -/
@[simp] theorem LineRec.write_command (r : LineRec) (l : GasLine) (c : Nat) : (r.write l c).command = c := by
  unfold LineRec.write; split <;> simp_all

@[simp] theorem LineRec.write_readback (r : LineRec) (l : GasLine) (c : Nat) :
    (r.write l c).readback = r.readback := by
  unfold LineRec.write; split <;> rfl

/-- A grant puts exactly the flows in force. -/
@[simp] theorem Gas.grant_commands_same (g : Gas) (t : Tube) (f : Flows) : (g.grant t f).commands t = f := by
  cases f; simp [Gas.grant, Gas.writeLines, Gas.commands]

theorem Gas.grant_commands_other (g : Gas) {t u : Tube} (h : u ≠ t) (f : Flows) :
    (g.grant t f).commands u = g.commands u := by
  simp [Gas.grant, Gas.writeLines, Gas.commands, PerTube.get_set_other _ h]

@[simp] theorem Gas.grant_granted (g : Gas) (t : Tube) (f : Flows) :
    (g.grant t f).granted = g.granted.set t f := rfl

@[simp] theorem Gas.grant_safety (g : Gas) (t : Tube) (f : Flows) :
    (g.grant t f).safety = g.safety.set t false := rfl

@[simp] theorem Gas.grant_queue (g : Gas) (t : Tube) (f : Flows) : (g.grant t f).queue = g.queue := rfl

/-! ### Payload values (R166) -/

@[simp] theorem byte?_cons (b : Byte) (p : List Byte) : byte? (b :: p) = some (b, p) := rfl

/-- The two bytes of a number put together again. -/
theorem halfBytes_append (h : Half) : (h.extractLsb' 8 8 ++ h.extractLsb' 0 8 : BitVec (8 + 8)) = h := by
  apply BitVec.eq_of_getLsbD_eq
  intro i hi
  rw [BitVec.getLsbD_append]
  by_cases h8 : i < 8
  · simp [h8]
  · have e : 8 + (i - 8) = i := by omega
    simp [h8, BitVec.getLsbD_extractLsb', e]
    omega

@[simp] theorem half?_halfBytes (h : Half) (p : List Byte) : half? (halfBytes h ++ p) = some (h, p) :=
  congrArg (fun x : Half => some (x, p)) (halfBytes_append h)

end Sys2Proof.Machine
end

