-- ==== Sys2Proof/Laws/PerInstr.lean ====
section
/-! SUPPORT. The family RequestRow: of every row that carries a request, the frame it stands for is one the line can
carry and its kind is the code of a request, and a row of the plant carries none. One lemma per constructor. -/

namespace Sys2Proof.Laws

open Sys2Proof.Machine

/-- The payload of a known kind is never refused for its kind (R160, R167). -/
theorem decodeRequest_known (r : Request) (p : List Byte) : decodeRequest (requestKind r) p ≠ .badKind := by
  have h1 : ∀ q, noField p q ≠ .badKind := by intro q; unfold noField; split <;> simp
  have h2 : ∀ f, oneByte p f ≠ .badKind := by intro f; unfold oneByte; split <;> simp
  have h3 : ∀ q, whole q ≠ .badKind := by intro q; unfold whole; split <;> simp
  cases r <;> first
    | exact h1 _
    | exact h2 _
    | exact h3 _
    | (show (match p with | [_, _] => _ | _ => _) ≠ _; split <;> simp)
    | (show (match p with | [_, _, _] => _ | _ => _) ≠ _; split <;> simp)
    | (show (match p with | [_, _, _, _] => _ | _ => _) ≠ _; split <;> simp)

/-- What the family says of a command: a well-formed one that carries a request has a frame of at most 253 bytes that
begins with the start byte, and the kind of the frame is a request's. -/
def RequestRow.Statement (i : Instr) : Prop :=
  ∀ tag r, instrRequest i = some (tag, r) → wellFormed i = true →
    (frameBytes (requestKind r) tag (requestPayload r)).length ≤ 253 ∧
      (frameBytes (requestKind r) tag (requestPayload r)).head? = some 0xC3 ∧
      ∀ p, decodeRequest (requestKind r) p ≠ .badKind

/-- The family for a command that carries a request. -/
theorem requestRow_of_request {i : Instr} {tag : Byte} {r : Request} (h : instrRequest i = some (tag, r)) :
    RequestRow.Statement i := by
  intro tag' r' h' hw
  rw [h] at h'
  obtain ⟨rfl, rfl⟩ := Prod.mk.inj (Option.some.inj h')
  refine ⟨?_, rfl, decodeRequest_known _⟩
  have hp : (requestPayload r).length ≤ 248 := by
    unfold wellFormed at hw
    rw [h] at hw
    simp only [requestWellFormed, payloadFits, Bool.and_eq_true, decide_eq_true_eq] at hw
    exact hw.1
  simp [frameBytes, u8]
  omega

/-- The family for a command of the plant. -/
theorem requestRow_of_plant {i : Instr} (h : instrRequest i = none) : RequestRow.Statement i := by
  intro tag r h' _
  rw [h] at h'
  cases h'

theorem RequestRow.rxByte : ∀ a1, RequestRow.Statement (.rxByte a1) := by
  intros; exact requestRow_of_plant rfl

theorem RequestRow.rxFramingError : RequestRow.Statement .rxFramingError := requestRow_of_plant rfl

theorem RequestRow.silenceTimeout : RequestRow.Statement .silenceTimeout := requestRow_of_plant rfl

theorem RequestRow.takeRequest : RequestRow.Statement .takeRequest := requestRow_of_plant rfl

theorem RequestRow.transmitComplete : RequestRow.Statement .transmitComplete := requestRow_of_plant rfl

theorem RequestRow.identify : ∀ a1, RequestRow.Statement (.identify a1) := by
  intros; exact requestRow_of_request rfl

theorem RequestRow.setNotices : ∀ a1 a2 a3 a4 a5, RequestRow.Statement (.setNotices a1 a2 a3 a4 a5) := by
  intros; exact requestRow_of_request rfl

theorem RequestRow.configureTube : ∀ a1 a2 a3 a4 a5, RequestRow.Statement (.configureTube a1 a2 a3 a4 a5) := by
  intros; exact requestRow_of_request rfl

theorem RequestRow.configureBank : ∀ a1 a2 a3 a4 a5 a6 a7, RequestRow.Statement (.configureBank a1 a2 a3 a4 a5 a6 a7) := by
  intros; exact requestRow_of_request rfl

theorem RequestRow.commission : ∀ a1, RequestRow.Statement (.commission a1) := by
  intros; exact requestRow_of_request rfl

theorem RequestRow.setClock : ∀ a1 a2, RequestRow.Statement (.setClock a1 a2) := by
  intros; exact requestRow_of_request rfl

theorem RequestRow.restart : ∀ a1, RequestRow.Statement (.restart a1) := by
  intros; exact requestRow_of_request rfl

theorem RequestRow.run : ∀ a1 a2 a3, RequestRow.Statement (.run a1 a2 a3) := by
  intros; exact requestRow_of_request rfl

theorem RequestRow.hold : ∀ a1 a2, RequestRow.Statement (.hold a1 a2) := by
  intros; exact requestRow_of_request rfl

theorem RequestRow.resume : ∀ a1 a2, RequestRow.Statement (.resume a1 a2) := by
  intros; exact requestRow_of_request rfl

theorem RequestRow.skipStep : ∀ a1 a2, RequestRow.Statement (.skipStep a1 a2) := by
  intros; exact requestRow_of_request rfl

theorem RequestRow.abort : ∀ a1 a2, RequestRow.Statement (.abort a1 a2) := by
  intros; exact requestRow_of_request rfl

theorem RequestRow.safeStop : ∀ a1 a2, RequestRow.Statement (.safeStop a1 a2) := by
  intros; exact requestRow_of_request rfl

theorem RequestRow.recover : ∀ a1 a2, RequestRow.Statement (.recover a1 a2) := by
  intros; exact requestRow_of_request rfl

theorem RequestRow.queryTube : ∀ a1 a2, RequestRow.Statement (.queryTube a1 a2) := by
  intros; exact requestRow_of_request rfl

theorem RequestRow.recipeOpen : ∀ a1 a2 a3 a4 a5 a6 a7 a8, RequestRow.Statement (.recipeOpen a1 a2 a3 a4 a5 a6 a7 a8) := by
  intros; exact requestRow_of_request rfl

theorem RequestRow.recipeStep : ∀ a1 a2 a3 a4, RequestRow.Statement (.recipeStep a1 a2 a3 a4) := by
  intros; exact requestRow_of_request rfl

theorem RequestRow.recipeClose : ∀ a1, RequestRow.Statement (.recipeClose a1) := by
  intros; exact requestRow_of_request rfl

theorem RequestRow.recipeCancel : ∀ a1, RequestRow.Statement (.recipeCancel a1) := by
  intros; exact requestRow_of_request rfl

theorem RequestRow.recipeDrop : ∀ a1 a2, RequestRow.Statement (.recipeDrop a1 a2) := by
  intros; exact requestRow_of_request rfl

theorem RequestRow.recipeDropOwner : ∀ a1 a2, RequestRow.Statement (.recipeDropOwner a1 a2) := by
  intros; exact requestRow_of_request rfl

theorem RequestRow.readRecipe : ∀ a1 a2 a3 a4, RequestRow.Statement (.readRecipe a1 a2 a3 a4) := by
  intros; exact requestRow_of_request rfl

theorem RequestRow.loadTuning : ∀ a1 a2 a3 a4 a5 a6 a7, RequestRow.Statement (.loadTuning a1 a2 a3 a4 a5 a6 a7) := by
  intros; exact requestRow_of_request rfl

theorem RequestRow.queryZones : ∀ a1 a2, RequestRow.Statement (.queryZones a1 a2) := by
  intros; exact requestRow_of_request rfl

theorem RequestRow.setBudget : ∀ a1 a2, RequestRow.Statement (.setBudget a1 a2) := by
  intros; exact requestRow_of_request rfl

theorem RequestRow.queryPower : ∀ a1, RequestRow.Statement (.queryPower a1) := by
  intros; exact requestRow_of_request rfl

theorem RequestRow.queryGas : ∀ a1, RequestRow.Statement (.queryGas a1) := by
  intros; exact requestRow_of_request rfl

theorem RequestRow.queryAtmosphere : ∀ a1 a2, RequestRow.Statement (.queryAtmosphere a1 a2) := by
  intros; exact requestRow_of_request rfl

theorem RequestRow.setSpeedTable : ∀ a1 a2 a3, RequestRow.Statement (.setSpeedTable a1 a2 a3) := by
  intros; exact requestRow_of_request rfl

theorem RequestRow.boatJog : ∀ a1 a2 a3 a4, RequestRow.Statement (.boatJog a1 a2 a3 a4) := by
  intros; exact requestRow_of_request rfl

theorem RequestRow.queryBoat : ∀ a1 a2, RequestRow.Statement (.queryBoat a1 a2) := by
  intros; exact requestRow_of_request rfl

theorem RequestRow.setFaultPolicy : ∀ a1 a2 a3 a4 a5, RequestRow.Statement (.setFaultPolicy a1 a2 a3 a4 a5) := by
  intros; exact requestRow_of_request rfl

theorem RequestRow.clearFaults : ∀ a1 a2 a3, RequestRow.Statement (.clearFaults a1 a2 a3) := by
  intros; exact requestRow_of_request rfl

theorem RequestRow.readLog : ∀ a1 a2, RequestRow.Statement (.readLog a1 a2) := by
  intros; exact requestRow_of_request rfl

theorem RequestRow.queryFaults : ∀ a1 a2, RequestRow.Statement (.queryFaults a1 a2) := by
  intros; exact requestRow_of_request rfl

theorem RequestRow.powerOn : RequestRow.Statement .powerOn := requestRow_of_plant rfl

theorem RequestRow.resetN : RequestRow.Statement .resetN := requestRow_of_plant rfl

theorem RequestRow.resetRelease : ∀ a1, RequestRow.Statement (.resetRelease a1) := by
  intros; exact requestRow_of_plant rfl

theorem RequestRow.uptimeTick : RequestRow.Statement .uptimeTick := requestRow_of_plant rfl

theorem RequestRow.stepTimerTick : ∀ a1, RequestRow.Statement (.stepTimerTick a1) := by
  intros; exact requestRow_of_plant rfl

theorem RequestRow.stepTimeElapsed : ∀ a1, RequestRow.Statement (.stepTimeElapsed a1) := by
  intros; exact requestRow_of_plant rfl

theorem RequestRow.stepTimeout : ∀ a1, RequestRow.Statement (.stepTimeout a1) := by
  intros; exact requestRow_of_plant rfl

theorem RequestRow.sampleArrival : ∀ a1 a2 a3 a4, RequestRow.Statement (.sampleArrival a1 a2 a3 a4) := by
  intros; exact requestRow_of_plant rfl

theorem RequestRow.thermalTick : ∀ a1, RequestRow.Statement (.thermalTick a1) := by
  intros; exact requestRow_of_plant rfl

theorem RequestRow.rampStalled : ∀ a1, RequestRow.Statement (.rampStalled a1) := by
  intros; exact requestRow_of_plant rfl

theorem RequestRow.allocationPass : RequestRow.Statement .allocationPass := requestRow_of_plant rfl

theorem RequestRow.powerStarved : ∀ a1 a2, RequestRow.Statement (.powerStarved a1 a2) := by
  intros; exact requestRow_of_plant rfl

theorem RequestRow.loadShedEdge : ∀ a1, RequestRow.Statement (.loadShedEdge a1) := by
  intros; exact requestRow_of_plant rfl

theorem RequestRow.flowReadback : ∀ a1 a2 a3, RequestRow.Statement (.flowReadback a1 a2 a3) := by
  intros; exact requestRow_of_plant rfl

theorem RequestRow.gasTick : ∀ a1, RequestRow.Statement (.gasTick a1) := by
  intros; exact requestRow_of_plant rfl

theorem RequestRow.admitted : RequestRow.Statement .admitted := requestRow_of_plant rfl

theorem RequestRow.headerWaitTimeout : ∀ a1, RequestRow.Statement (.headerWaitTimeout a1) := by
  intros; exact requestRow_of_plant rfl

theorem RequestRow.flowDeviation : ∀ a1 a2, RequestRow.Statement (.flowDeviation a1 a2) := by
  intros; exact requestRow_of_plant rfl

theorem RequestRow.purgeComplete : ∀ a1, RequestRow.Statement (.purgeComplete a1) := by
  intros; exact requestRow_of_plant rfl

theorem RequestRow.purgeIncomplete : ∀ a1, RequestRow.Statement (.purgeIncomplete a1) := by
  intros; exact requestRow_of_plant rfl

theorem RequestRow.ignitionChange : ∀ a1, RequestRow.Statement (.ignitionChange a1) := by
  intros; exact requestRow_of_plant rfl

theorem RequestRow.flameSenseRise : ∀ a1, RequestRow.Statement (.flameSenseRise a1) := by
  intros; exact requestRow_of_plant rfl

theorem RequestRow.flameSenseFall : ∀ a1, RequestRow.Statement (.flameSenseFall a1) := by
  intros; exact requestRow_of_plant rfl

theorem RequestRow.ignitionFailed : ∀ a1, RequestRow.Statement (.ignitionFailed a1) := by
  intros; exact requestRow_of_plant rfl

theorem RequestRow.postFlowEnd : ∀ a1, RequestRow.Statement (.postFlowEnd a1) := by
  intros; exact requestRow_of_plant rfl

theorem RequestRow.positionArrival : ∀ a1 a2, RequestRow.Statement (.positionArrival a1 a2) := by
  intros; exact requestRow_of_plant rfl

theorem RequestRow.motionTick : ∀ a1, RequestRow.Statement (.motionTick a1) := by
  intros; exact requestRow_of_plant rfl

theorem RequestRow.moveStart : ∀ a1, RequestRow.Statement (.moveStart a1) := by
  intros; exact requestRow_of_plant rfl

theorem RequestRow.openLimitEdge : ∀ a1 a2, RequestRow.Statement (.openLimitEdge a1 a2) := by
  intros; exact requestRow_of_plant rfl

theorem RequestRow.closedLimitEdge : ∀ a1 a2, RequestRow.Statement (.closedLimitEdge a1 a2) := by
  intros; exact requestRow_of_plant rfl

theorem RequestRow.settleTimeout : ∀ a1, RequestRow.Statement (.settleTimeout a1) := by
  intros; exact requestRow_of_plant rfl

theorem RequestRow.shutterTimeout : ∀ a1, RequestRow.Statement (.shutterTimeout a1) := by
  intros; exact requestRow_of_plant rfl

theorem RequestRow.bankLineEdge : ∀ a1 a2, RequestRow.Statement (.bankLineEdge a1 a2) := by
  intros; exact requestRow_of_plant rfl

theorem RequestRow.logSequenceWrap : RequestRow.Statement .logSequenceWrap := requestRow_of_plant rfl

end Sys2Proof.Laws
end

