-- ==== Sys2Proof/Tests/Slice0.lean ====
section
/-! SUPPORT. The model's own tests: what WellFormed refuses, worked values of the manual, one step on small states, and
for every statement with hypotheses a state and operands that meet them together. -/

namespace Sys2Proof.Tests

open Sys2Proof.Machine

/-- Whether a command answers a next state that passes a test. -/
def nextIs (o : Out) (p : State → Bool) : Bool :=
  match o with
  | .next s => p s
  | .fault _ => false
  | .refused _ => false

/-! ### WellFormed -/

/-- A name of 250 characters makes a payload of more than 248 bytes. -/
theorem test_payload_too_long :
    wellFormed (.recipeOpen 1 1 (List.replicate 250 0x41) 0 0 3 1 0) = false := by decide +kernel

/-- Twenty kinds are more than CLEAR_FAULTS may list. -/
theorem test_clear_list_too_long : wellFormed (.clearFaults 1 1 (List.replicate 20 1)) = false := by decide +kernel

/-- Well-formed requests of each shape. -/
theorem test_well_formed :
    wellFormed (.clearFaults 1 1 [1, 19]) = true ∧ wellFormed (.hold 1 9) = true ∧ wellFormed .admitted = true := by
  decide

/-! ### Worked values of the manual -/

/-- 9.7: the bytes 0x02, 0x01, 0x21 give the check 0x24. -/
theorem test_crc : crc8 [0x02, 0x01, 0x21] = 0x24 := by decide +kernel

/-- 9.7: the frame of IDENTIFY with the tag 0x21. -/
theorem test_identify_frame : frameBytes 0x01 0x21 [] = [0xC3, 0x02, 0x01, 0x21, 0x24] := by decide +kernel

/-- 10.4: main step 2 of OXDRY-1000. -/
def oxdryStep2 : RawStep :=
  { endCond := some 1, duration := some 2400, targets := some [10000, 10000, 10000], rate := some 100, band := some 30,
    holdback := some 300, lockstep := none, n2 := none, o2 := none, h2 := none, aux := none, move := none,
    bank := some 2, mask := some 3 }

/-- 10.4: its presence word is 12 351 and it spans 19 bytes; with list and index the payload is 21 bytes. -/
theorem test_step_record : stepWord oxdryStep2 = 12351 ∧ (stepBytes oxdryStep2).length = 19 ∧
    (requestPayload (.recipeStep 0 2 oxdryStep2)).length = 21 := by decide +kernel

/-- Decoding of requests written out byte by byte from R167 and R169: HOLD of tube 3, SET_BUDGET 300, the step above. -/
theorem test_decode_bytes :
    decodeRequest 0x21 [0x03] = .request (.hold 3) ∧ decodeRequest 0x42 [0x01, 0x2C] = .request (.setBudget 300) ∧
    decodeRequest 0x31 [0x00, 0x02, 0x30, 0x3F, 0x01, 0x09, 0x60, 0x03, 0x27, 0x10, 0x27, 0x10, 0x27, 0x10, 0x64, 0x00,
      0x1E, 0x01, 0x2C, 0x02, 0x03] = .request (.recipeStep 0 2 oxdryStep2) ∧
    decodeRequest 0x31 [0x00, 0x02, 0x40, 0x00] = .badLength ∧ decodeRequest 0xA1 [0x03] = .badKind ∧
    decodeRequest 0x21 [] = .badLength := by decide +kernel

/-- 3.11: the first three advances of a ramp at 10.0 °C/min from 800.0 °C to 801.0 °C. -/
theorem test_ramp_table :
    let z : ZoneRec :=
      { ZoneRec.reset with setpoint := 800000, origin := 800000, target := 801000, complete := false }
    let z1 := z.advance 100
    let z2 := z1.advance 100
    (z1.setpoint, z1.remainder) = (800166, 40) ∧ (z2.setpoint, z2.remainder) = (800333, 20) ∧
      (z2.advance 100).setpoint = 800500 := by decide

/-! ### Small states -/

/-- A TIME step of 60 s and nothing else. -/
def plain : Step :=
  { endCond := .time, duration := 60, targets := none, rate := none, band := none, holdback := none, lockstep := none,
    flows := PerLine.all none, move := none, bank := none, mask := none }

/-- A closed recipe of two plain steps and a plain tail. -/
def recipe (uses : Nat) : Recipe :=
  { closed := true, name := [0x41], owner := 7, resident := false, zoneCount := 3, mainCount := 2, tailCount := 1,
    main := [plain, plain], tail := [plain], inUse := uses }

/-- A tube of three zones. -/
def tube1 : TubeConfig :=
  { TubeConfig.reset with
    status := .fitted, activeZones := 3, ratings := [100, 100, 100], maxTemp := 13000, elementLimit := 13500,
    disagreeLimit := 500, deviationBand := 100, idleTemp := 8000, idleRate := 50,
    scale := { n2 := 20000, o2 := 10000, h2 := 10000, aux := 0 }, idleN2 := 5000, purgeN2 := 15000, safetyN2 := 10000,
    ratio := 180, ignitionH2 := 2000, volume := 100, exchanges := 4, preflowTime := 10, ignitionTimeout := 5,
    postFlowTime := 30, travel := 15000, boatN2Min := 2000, stallLimit := 100, starveLimit := 30 }

/-- A commissioned bank whose tube 1 stands in the run state `rs`, with `r` as its recipe reference at main step 1. -/
def bank (rs : RunState) (r : Option (Fin 16)) : State :=
  { State.reset with
    run := State.reset.run.set .t1 { RunRec.reset with state := rs, recipe := r, step := if r.isSome then 1 else 0 }
    thermal := State.reset.thermal.set .t1 { ThermalRec.reset with runState := rs }
    store := { (State.reset.store.setSlot 0 (some (recipe (if r.isSome then 1 else 0)))) with reserved := 3 }
    config := { locked := true, tubes := State.reset.config.tubes.set .t1 tube1,
                bank := { headers := { n2 := 100, o2 := 50, h2 := 30, aux := 1 }, shedBudget := 20,
                          waitTimeout := 60 } }
    alloc := { State.reset.alloc with budget := some 100 } }

/-- A torch of tube 1 in the state `st` with the flows `f` in force and the target `g`. -/
def torch (st : AtmState) (f g : Flows) (timer : Nat) : State :=
  let s := bank .holding (some 0)
  let a : AtmRec := { (AtmRec.resetAt false) with
    state := st, cls := classOf f, target := g, targetClass := classOf g, inForce := f, phaseTimer := timer,
    igniter := st = .ignite }
  (s.setGas (s.gas.grant .t1 f)).setAtm .t1 a

/-- Steam flows and the preflow flows before them. -/
def steam : Flows := { n2 := 0, o2 := 4000, h2 := 6000, aux := 0 }

/-- Oxygen alone. -/
def oxygen : Flows := { n2 := 0, o2 := 4000, h2 := 0, aux := 0 }

/-- A boat of tube 1 in a bank whose tube 1 is IDLE. -/
def boat (b : BoatRec) : State := (bank .idle none).setBoat .t1 b

/-- A boat at 100.0 mm as measured. -/
def boatAt (st : BoatState) : BoatRec :=
  { (BoatRec.resetAt true false) with state := st, pos := some 1000, measured := some 1000, stepSpeed := 100 }

/-! ### One step -/

/-- A command at the front runs; on an empty queue the block idles. -/
theorem test_step_runs :
    nextIs (step { State.reset with pending := [.uptimeTick] }) (fun s => decide (s.time.uptime = 1 ∧ s.pending = [])) = true ∧
    nextIs (step State.reset) (fun s => decide (s = State.reset)) = true := by decide +kernel

/-- SET_BUDGET 300 taken from reset (R73): its OK, kind 0xC2, is in transmission. -/
theorem test_set_budget :
    nextIs (exec (.setBudget 5 300) State.reset) (fun s => decide (s.alloc.budget = some 300 ∧ s.link.tx = some (.reply
         { fromRequest := true, kind := 0xC2, tag := 5, payloads := [[1, 44, 0, 0, 0, 1, 44]], restarts := false }))) = true := by decide +kernel

/-- HOLD takes a RUNNING tube to HOLDING, and its OK precedes its TUBE_STATE (R19, R161). -/
theorem test_hold :
    nextIs (exec (.hold 2 1) (bank .running (some 0))) (fun s => decide (s.runState .t1 = .holding ∧ s.link.tx = some (.reply
         { fromRequest := true, kind := 0xA1, tag := 2, payloads := [[1, 3]], restarts := false }) ∧
         s.link.notices = [{ lost := false, notice := .tubeState .t1 .holding .running .hold 0 }])) = true := by decide +kernel

/-- A lost flame: hydrogen shut and the tube SAFE in the same event (R114, R139). -/
theorem test_flame_lost :
    nextIs (exec (.flameSenseFall .t1) (torch .lit steam steam 0)) (fun s => decide (s.runState .t1 = .safe ∧ (s.gas.commands .t1).h2 = 0 ∧ (s.atm.get .t1).state = .safeFlow)) = true := by decide +kernel

/-- An open profile sample takes the tube to SAFE with the heater inhibit (R49, R142). -/
theorem test_tc_open :
    nextIs (exec (.sampleArrival .t1 .z2 .profile .isOpen) (bank .running (some 0))) (fun s => decide (s.runState .t1 = .safe ∧ (s.thermal.get .t1).inhibit = .fault)) = true := by decide +kernel

/-! ### Witnesses of the statements' hypotheses -/

theorem witness_RequestRowIsServed : instrRequest (.hold 2 1) = some (2, .hold 1) ∧ wellFormed (.hold 2 1) = true ∧
    (bank .running (some 0)).canTake = true := by decide

/-- A state whose request reply waits behind a reply in transmission, with four requests in the queue. -/
def crowded (n : Nat) : State :=
  let r : Reply := { fromRequest := true, kind := 0x81, tag := 1, payloads := [[]], restarts := false }
  State.reset.setLink { State.reset.link with
    tx := some (.reply r), replies := [r], requests := List.replicate n { kind := 1, tag := 1, payload := [] } }

theorem witness_RequestRowWaitsWhileReplyWaits : (crowded 4).inReset = false ∧
    (crowded 4).link.requestReplyWaits = true ∧ (crowded 4).link.tx.isSome = true ∧
    ¬ (crowded 4).link.requests.length < 4 ∧ (crowded 3).link.requests.length < 4 := by decide

theorem witness_RequestDecodesFromItsPayload : requestWellFormed (.recipeStep 0 2 oxdryStep2) = true := by decide

theorem witness_FrameBytesReachTheRequestQueue : payloadFits (.setBudget 300) = true ∧
    State.reset.link.asm = .hunting ∧ State.reset.link.asmLength = 0 ∧ State.reset.link.asmBytes = [] := by decide

/-- An assembler in each of its states. -/
def assembling (a : AsmState) (n : Nat) (bytes : List Byte) : State :=
  State.reset.setLink { State.reset.link with asm := a, asmLength := n, asmBytes := bytes }

theorem witness_RxByteAssembles : (assembling .length 0 []).link.asm = .length ∧
    (assembling .body 2 [1]).link.asm = .body ∧ (assembling .body 2 [1]).inReset = false := by decide

theorem witness_BadCheckIsRejected : (assembling .check 2 [1, 0x21]).inReset = false ∧
    (assembling .check 2 [1, 0x21]).link.asm = .check ∧
    (assembling .check 2 [1, 0x21]).link.asmBytes = 1 :: 0x21 :: [] ∧
    (0x25 : Byte) ≠ crc8 (BitVec.ofNat 8 2 :: 1 :: 0x21 :: []) := by decide +kernel

theorem witness_TakeRequestTakesTheHead :
    let s := State.reset.setLink { State.reset.link with requests := [{ kind := 0x21, tag := 1, payload := [1] }] }
    s.inReset = false ∧ s.link.ready = true ∧ decodeRequest 0x21 [1] = .request (.hold 1) ∧
      requestKind (.hold 1) = 0x21 ∧ (crowded 1).link.requestReplyWaits = true := by decide

theorem witness_TransmitCompleteServesRepliesFirst : (crowded 0).link.requests = [] ∧ (crowded 0).inReset = false ∧
    (crowded 0).link.tx.isSome = true ∧ (crowded 0).link.replies ≠ [] := by decide

theorem witness_NoticeIsQueuedMarkedOrDropped :
    State.reset.link.enables.allows (.tubeState .t1 .idle .offline .commission 0) = true ∧
    State.reset.link.notices.length < 32 := by decide

theorem witness_ResetReturnsEveryBlock : (State.resetAt Lines.atReset true []).inReset = true ∧
    State.reset.inReset = false := by decide

theorem witness_UptimeTickAndClock : State.reset.canTake = true ∧ State.reset.inReset = false := by decide

theorem witness_SetNoticesWritesTheEnables : State.reset.canTake = true ∧ (1 : Byte) = (if true then 1 else 0) ∧
    1 < (2 : Byte).toNat := by decide

theorem witness_QueriesChangeOnlyTheLink : State.reset.canTake = true ∧ tubeField 4 = some .t4 ∧ tubeField 0 = none ∧
    tubeField 5 = none := by decide

/-- A CONFIGURE_TUBE whose fields pass, at the boundary values of several ranges. -/
def fields : TubeFields :=
  { ratings := [1, 250, 100], maxTemp := 13000, elementLimit := 13000, disagreeLimit := 200, deviationBand := 10,
    idleTemp := 0, idleRate := 1, scaleN2 := 20000, scaleO2 := 0, scaleH2 := 0, scaleAux := 0, idleN2 := 0,
    purgeN2 := 20000, safetyN2 := 0, ratio := 100, ignitionH2 := 0, volume := 10, exchanges := 1, preflowTime := 3,
    ignitionTimeout := 2, postFlowTime := 5, travel := 8000, boatN2Min := 0, stallLimit := 50, defaultBank := 7,
    starveLimit := 600 }

theorem witness_ConfigurationIsWrittenUntilLocked : State.reset.canTake = true ∧ State.reset.config.locked = false ∧
    wellFormed (.configureTube 1 1 1 3 fields) = true ∧ tubeField 1 = some .t1 ∧
    firstFail (tubeChecks 3 fields) = none ∧ (bank .idle none).config.locked = true ∧
    (bank .idle none).canTake = true := by decide

/-- An uncommissioned bank ready for COMMISSION. -/
def configured : State :=
  { State.reset with
    config := { State.reset.config with tubes :=
      { t1 := tube1, t2 := { TubeConfig.reset with status := .notFitted },
        t3 := { TubeConfig.reset with status := .notFitted }, t4 := { TubeConfig.reset with status := .notFitted } } }
    alloc := { State.reset.alloc with budget := some 10 } }

theorem witness_CommissionChecksAndLocks : configured.canTake = true ∧ configured.config.locked = false ∧
    configured.config.unconfigured = 0 ∧ configured.fittedTubes = [.t1] ∧ configured.alloc.budget ≠ none ∧
    State.reset.config.unconfigured = 4 ∧ configured.runState .t2 = .offline := by decide

theorem witness_RestartIsRefusedDuringARun : (bank .running (some 0)).canTake = true ∧
    (bank .running (some 0)).runState .t1 = .running ∧ State.reset.canTake = true ∧ State.reset.link.tx = none ∧
    State.reset.link.replies = [] := by decide

theorem witness_RunIsRefusedInItsOrder : (bank .holding (some 0)).canTake = true ∧ slotField 1 = some 0 ∧
    (bank .holding (some 0)).runState .t1 ≠ .idle ∧ (bank .idle none).runState .t1 = .idle ∧
    slotField 16 = some 15 ∧ (bank .idle none).store.recipe? 15 = none := by decide

theorem witness_RunIsTaken : (bank .idle none).canTake = true ∧ tubeField 1 = some .t1 ∧ slotField 1 = some 0 ∧
    (bank .idle none).runCheck .t1 0 = none ∧ (bank .idle none).store.recipe? 0 = some (recipe 0) ∧
    (recipe 0).main = plain :: [plain] ∧ plain.endCond = .time ∧ 1 ≤ plain.duration ∧ plain.hasGas = false ∧
    ((bank .idle none).atm.get .t1).state ≠ .preflow := by decide

theorem witness_HoldIsTaken : (bank .running (some 0)).canTake = true ∧ tubeField 1 = some .t1 ∧
    (bank .running (some 0)).runState .t1 = .running := by decide

theorem witness_ResumeIsTakenOrRefused : (bank .holding (some 0)).canTake = true ∧
    (bank .holding (some 0)).runState .t1 = .holding ∧ (bank .holding (some 0)).faults.anyHolding .t1 = false ∧
    (bank .holding (some 0)).currentStep .t1 = some plain ∧
    ((bank .holding (some 0)).run.get .t1).timer < plain.duration := by decide

theorem witness_PlainStepIsEntered :
    let s := (bank .running (some 0)).setRun .t1 { (bank .running (some 0)).run.get .t1 with timer := 60 }
    s.canTake = true ∧ s.recipeOf .t1 = some (recipe 1) ∧ s.currentStep .t1 = some plain ∧
      (recipe 1).step? .main 2 = some plain ∧ plain.move = none ∧ plain.duration ≤ (s.run.get .t1).timer := by decide

theorem witness_StepTimerRunsInRunningAndAborting : (bank .running (some 0)).runState .t1 = .running ∧
    (bank .running (some 0)).currentStep .t1 = some plain ∧
    RunRec.condMet { (bank .running (some 0)).run.get .t1 with timer := 1 } plain = false := by decide

theorem witness_OnsetsAreReportedOnce_step :
    let st := { plain with endCond := .gas }
    let s := { bank .running (some 0) with
      store := (bank .running (some 0)).store.setSlot 0 (some { recipe 1 with main := [st] }) }
    let s := s.setRun .t1 { s.run.get .t1 with timer := 60 }
    s.currentStep .t1 = some st ∧ st.endCond ≠ .time ∧ st.duration ≤ (s.run.get .t1).timer ∧
      (s.run.get .t1).condMet st = false ∧ (s.run.get .t1).timeoutRaised = false := by decide

theorem witness_AbortWalksTheTail : (bank .running (some 0)).recipeOf .t1 = some (recipe 1) ∧
    (recipe 1).tail = plain :: [] ∧ (bank .running (some 0)).gas.entry? .t1 = none ∧
    ((bank .running (some 0)).atm.get .t1).state ≠ .preflow ∧ (bank .running (some 0)).canTake = true := by decide

theorem witness_SafeStopTakesTheTubeToSafe : (bank .aborting (some 0)).canTake = true ∧
    (bank .aborting (some 0)).runState .t1 ≠ .offline ∧ (bank .aborting (some 0)).runState .t1 ≠ .safe ∧
    (bank .aborting (some 0)).gas.queue = [] ∧ (bank .aborting (some 0)).runState .t2 = .offline := by decide

/-- A bank whose tube 1 is SAFE and whose interlock is closed. -/
def safeBank : State := (bank .safe none).setFaults { (bank .safe none).faults with interlock := true }

theorem witness_RecoverChecksAndReturnsToIdle : safeBank.canTake = true ∧ safeBank.runState .t1 = .safe ∧
    safeBank.recoverBlocked .t1 = false ∧ safeBank.faults.anySafe .t1 = false ∧ safeBank.gas.queue = [] ∧
    (bank .safe none).recoverBlocked .t1 = true := by decide

theorem witness_RunEndsAndIdleBehaviourFollows : ((bank .running (some 0)).run.get .t1).recipe = some 0 ∧
    (bank .running (some 0)).store.recipe? 0 = some (recipe 1) ∧
    (bank .running (some 0)).link.notices.length ≤ 30 := by decide

theorem witness_FaultActionFollowsItsTable : (bank .aborting (some 0)).runState .t1 = .aborting ∧
    (bank .idle none).runState .t1 = .idle := by decide

theorem witness_RecipeOpenReservesTheDeclaredRecords : State.reset.canTake = true ∧ slotField 16 = some 15 ∧
    State.reset.store.load = none ∧ State.reset.store.recipe? 15 = none ∧
    (48 : Byte).toNat + (8 : Byte).toNat ≤ 384 - State.reset.store.reserved ∧ (3 : Byte).toNat = 3 := by decide

/-- An open load on slot 1 whose next position is main 1. -/
def loading : State :=
  State.reset.setStore
    { (State.reset.store.setSlot 0 (some { recipe 0 with closed := false, main := [], tail := [] })) with
      reserved := 3
      load := some { slot := 0, mainCount := 2, tailCount := 1, next := .step .main 1, storedMain := 0,
                     storedTail := 0 } }

theorem witness_RecipeStepIsStoredInOrder : loading.canTake = true ∧
    wellFormed (.recipeStep 1 0 1 oxdryStep2) = true ∧ loading.store.load.isSome = true ∧
    ListSel.ofCode (0 : Byte).toNat = some .main ∧
    ((stepChecks 3 oxdryStep2).find? fun k => !k.2.2) = none := by decide

theorem witness_LoadsEndAndIdleRecipesDrop : loading.store.load.isSome = true ∧
    (loading.store.recipe? 0).isSome = true ∧ (bank .idle none).store.recipe? 0 = some (recipe 0) ∧
    (recipe 0).closed = true ∧ (recipe 0).inUse = 0 ∧ (recipe 0).owner = (7 : Byte).toNat := by decide

theorem witness_RampAdvanceIsExact : ThermalRec.reset.advances 3 (fun _ => false) .z1 = false := by decide

theorem witness_ThermalTickMovesEligibleRamps : (bank .running (some 0)).inReset = false ∧
    ((bank .running (some 0)).thermal.get .t1).runState ≠ .offline := by decide

theorem witness_SampleArrivalIsWrittenAndJudged :
    Zone.z3.number ≤ ((bank .idle none).tubeConfig .t1).activeZones ∧
    ((bank .idle none).tubeConfig .t1).activeZones < Zone.z4.number := by decide

theorem witness_LoadTuningWritesTheBankAndLimits : State.reset.canTake = true ∧ bankOf (7 : Byte).toNat = some 7 ∧
    bankOf (8 : Byte).toNat = none ∧ (9999 : Half).toNat ≤ 9999 ∧ (1000 : Half).toNat ≤ 1000 := by decide

theorem witness_BudgetAndShedStateAreWritten : State.reset.canTake = true ∧ 10 ≤ (10 : Half).toNat ∧
    (600 : Half).toNat ≤ 600 ∧ (bank .idle none).config.locked = true ∧
    (bank .idle none).alloc.shedActive = false ∧ State.reset.config.locked = false := by decide

theorem witness_OnsetsAreReportedOnce_heat :
    let th := { ThermalRec.reset with runState := .running, counter := 301,
                                      params := { RampParams.reset with holdback := 300 } }
    let az := { AllocZone.reset with part := true, cls := .soak, starved := true, timer := 30 }
    th.runState ≠ .offline ∧ th.params.holdback ≠ 0 ∧ th.params.holdback < th.counter ∧ th.stalled = false ∧
      (((bank .running (some 0)).tubeConfig .t1).starveLimit ≤ az.timer) ∧ az.starvedCond = false := by decide

theorem witness_OnsetsAreReportedOnce_gas :
    let s := (bank .running (some 0)).setGas { (bank .running (some 0)).gas with
      queue := [{ tube := .t1, flows := oxygen, age := 61, timedOut := false }] }
    let l := { LineRec.resetAt true with devRun := 10 }
    let a := { AtmRec.resetAt false with state := .purge, purgeTarget := 400000, purgeTimer := 4800,
                                         purgeLimit := 4800 }
    (s.gas.entry? .t1).isSome = true ∧ s.config.bank.waitTimeout ≠ 0 ∧ s.config.bank.waitTimeout < 61 ∧
      l.devRun = 10 ∧ l.raised = false ∧ a.purgeVolume < a.purgeTarget ∧ a.purgeLimit ≤ a.purgeTimer := by decide

theorem witness_OnsetsAreReportedOnce_boat :
    let b := { boatAt .settle with measured := some 1011, phaseTimer := 11 }
    let c := { boatAt .shutterOpening with phaseTimer := 31 }
    b.within = false ∧ 10 < b.phaseTimer ∧ 30 < c.phaseTimer := by decide

/-- A lone entry of tube 1 that waits for STABLE. -/
def waiting : State :=
  let s := bank .holding (some 0)
  (s.setGas { s.gas with queue := [{ tube := .t1, flows := oxygen, age := 3, timedOut := false }] }).setAtm .t1
    { AtmRec.resetAt false with state := .waitHeader, awaited := some .stable }

theorem witness_GasRowsOfTheArbiter : waiting.inReset = false ∧ waiting.gas.queue.length = 1 ∧
    waiting.gas.passes waiting.config.bank.headers .t1 oxygen = true ∧
    (waiting.atm.get .t1).awaited = some .stable ∧ waiting.runState .t1 = .holding ∧
    (bank .running (some 0)).gas.entry? .t1 = none ∧ ((bank .running (some 0)).atm.get .t1).state = .stable := by
  decide

theorem witness_AdmissionTestKeepsTheHeaders :
    ((bank .idle none).gas.submit (bank .idle none).config.bank.headers .t1 oxygen).2.1 = .applied ∧
    (waiting.gas.submit waiting.config.bank.headers .t1 oxygen).2.1 = .replaced ∧
    (∀ l ∈ GasLine.list, (bank .idle none).gas.grantedSum l (fun _ => true) ≤
      1000 * (bank .idle none).config.bank.headers.get l) := by decide

theorem witness_PurgeTorchAndPostFlowAdvance :
    let p := torch .purge { n2 := 15000, o2 := 0, h2 := 0, aux := 0 } steam 0
    let f := torch .preflow oxygen steam 10
    let e := torch .extinguish oxygen oxygen 30
    p.gas.queue = [] ∧ p.gas.passes p.config.bank.headers .t1 oxygen = true ∧ (p.run.get .t1).gasView = false ∧
      (p.atm.get .t1).purgeTarget ≤ (p.atm.get .t1).purgeVolume ∧ (p.atm.get .t1).targetClass = .steam ∧
      (f.atm.get .t1).awaited = none ∧ (f.atm.get .t1).flame = false ∧ (f.boat.get .t1).state = .ready ∧
      f.gas.passes f.config.bank.headers .t1 { steam with h2 := 2000 } = true ∧
      (e.tubeConfig .t1).postFlowTime ≤ (e.atm.get .t1).phaseTimer := by decide

/-- The torch of tube 1 in LIT and in IGNITE is sound, and so are the idle torches beside it. -/
theorem witness_LostFlameShutsTheHydrogen :
    (torch .lit steam steam 0).torchesSound ∧ (torch .ignite { steam with h2 := 2000 } steam 5).torchesSound ∧
    (torch .lit steam steam 0).inReset = false ∧
    ((torch .ignite { steam with h2 := 2000 } steam 5).tubeConfig .t1).ignitionTimeout ≤ 5 := by
  refine ⟨⟨?_, ?_⟩, ⟨?_, ?_⟩, ?_, ?_⟩
  · intro t; cases t <;> (unfold State.torchSound; decide)
  · decide
  · intro t; cases t <;> (unfold State.torchSound; decide)
  · decide
  · decide
  · decide

theorem witness_SpeedTableAndJog :
    [((4000 : Half), (600 : Half)), (8000, 100)].Pairwise
      (fun p q => p.1.toNat < q.1.toNat ∧ q.2.toNat ≤ p.2.toNat) ∧
    (boat (boatAt .ready)).canTake = true ∧ (boat (boatAt .ready)).runState .t1 = .idle ∧
    (2000 : Half).toNat ≤ ((boat (boatAt .ready)).tubeConfig .t1).travel ∧
    (boat (boatAt .ready)).boatEnv .t1 = { n2 := 0, n2Min := 2000, torch := false, stallLimit := 100 } := by decide

theorem witness_BoatTravelsToTheUnit :
    let b := { boatAt .travel with target := some 5000 }
    b.pos = some 1000 ∧ (b.remainder + 10 * min 100 (min 600 600)) / 60 < Sys2Proof.dist 5000 1000 ∧
      Sys2Proof.dist 1016 1000 ≤ ((boat b).tubeConfig .t1).stallLimit ∧
      ((boat b).tubeConfig .t1).stallLimit < Sys2Proof.dist 1000 1101 := by decide

theorem witness_MoveStartAndShutterEdges :
    let s := boat { boatAt .waitCond with target := some 5000, shutter := .opened }
    let s := s.setGas (s.gas.writeReadback .t1 .n2 2000)
    (s.boat.get .t1).canStart (s.boatEnv .t1) = true ∧ (s.boat.get .t1).shutter = .opened ∧
      (boatAt .shutterOpening).pos ≠ some 5000 := by decide

theorem witness_PolicyAndClearingOfFaults : FaultKind.ofCode (19 : Byte).toNat = some .shutterTimeout ∧
    FaultKind.shutterTimeout.fixed = false ∧ FaultKind.ofCode (1 : Byte).toNat = some .tcOpen ∧
    FaultKind.tcOpen.fixed = true ∧ PolicyAction.ofCode (4 : Byte).toNat = some .safe ∧
    State.reset.canTake = true ∧ tubeField 1 = some .t1 := by decide

theorem witness_DetectionIsGradedAndRecorded : (bank .running (some 0)).runState .t1 ≠ .offline ∧
    ((bank .running (some 0)).faults.policyOf .deviation).enable = true ∧
    (bank .running (some 0)).faults.nextSeq < 4294967295 ∧ (bank .running (some 0)).faults.log.length ≤ 64 := by decide

theorem witness_BankLinesAndLogWrap : (bank .idle none).config.locked = true ∧
    (bank .idle none).faults.hydrogen = false ∧ State.reset.config.locked = false := by decide

/-- The commissioned bank with a run meets the hypotheses of the statements about every step. -/
theorem witness_invariants :
    (bank .running (some 0)).config.locked = true ∧
    (∀ l ∈ GasLine.list, (bank .running (some 0)).gas.grantedSum l (fun _ => true) ≤
      1000 * (bank .running (some 0)).config.bank.headers.get l) ∧
    (bank .running (some 0)).users 0 = 1 ∧ (bank .running (some 0)).store.recipe? 0 = some (recipe 1) ∧
    (∀ t ∈ Tube.list, ((bank .running (some 0)).run.get t).recipe.isSome =
      ((bank .running (some 0)).runState t).hasRun) ∧
    (∀ t ∈ Tube.list, ((bank .running (some 0)).thermal.get t).runState = (bank .running (some 0)).runState t) := by
  decide

/-- The same bank is sound in every way stated, so that the statements about every step have a state to start from. -/
theorem witness_LinkControllerStaysSound : (bank .running (some 0)).linkSound := by
  refine ⟨⟨rfl, rfl⟩, ⟨?_, ?_, ?_, ?_⟩, ⟨fun _ => ⟨rfl, rfl⟩, fun h => absurd rfl h⟩⟩ <;> decide

theorem witness_FixedPolicyAndLogStaySound :
    (bank .running (some 0)).fixedPolicyKept ∧ (bank .running (some 0)).faults.logSound := by
  refine ⟨?_, ?_⟩
  · intro k; cases k <;> decide
  · unfold Faults.logSound; decide

theorem witness_HeadersStayWithinTheirLimits :
    (bank .running (some 0)).headersKept ∧ (bank .running (some 0)).config.locked = true := by
  refine ⟨?_, by decide⟩
  intro l; cases l <;> decide

theorem witness_RecipesAndRunsStaySound :
    (bank .running (some 0)).storeSound ∧ (bank .running (some 0)).runsSound := by
  refine ⟨⟨?_, ?_, by decide, by decide⟩, ⟨?_, fun h => absurd h (by decide)⟩⟩
  · intro i
    fin_cases i
    · exact ⟨by decide, fun h => absurd h (by decide)⟩
    all_goals (change State.users _ _ = 0; decide)
  · intro c h
    exact absurd h (by decide +revert)
  · intro t; cases t <;> decide

theorem witness_RampsStaySound : (bank .running (some 0)).rampsSound := by
  intro t z; cases t <;> cases z <;> (unfold ZoneRec.rampSound; decide)

theorem witness_HeatersStaySound : (bank .running (some 0)).heatersSound := by
  refine ⟨?_, fun h => absurd h (by decide), ?_⟩
  · intro t; cases t <;> decide
  · intro t z; cases t <;> cases z <;> decide

/-- A step from that bank answers a next state: the step timer of tube 1 counts. -/
theorem witness_StepFromSoundState :
    nextIs (step { bank .running (some 0) with pending := [.stepTimerTick .t1] })
      (fun s => decide ((s.run.get .t1).timer = 1)) = true := by decide +kernel

/-- CONFIGURE_BANK at the ends of its ranges is taken, and just past them is refused by the field (R174). -/
theorem test_configure_bank_bounds :
    nextIs (exec (.configureBank 1 200 100 60 10 600 3600) State.reset) (fun s => decide (s.config.bank =
      { headers := { n2 := 200, o2 := 100, h2 := 60, aux := 10 }, shedBudget := 600, waitTimeout := 3600 })) = true ∧
    nextIs (exec (.configureBank 1 10 5 2 1 0 10) State.reset) (fun s => decide (s.config.bank =
      { headers := { n2 := 10, o2 := 5, h2 := 2, aux := 1 }, shedBudget := 0, waitTimeout := 10 })) = true ∧
    nextIs (exec (.configureBank 1 9 5 2 1 0 10) State.reset) (fun s => decide (s.config = State.reset.config)) = true ∧
    nextIs (exec (.configureBank 1 10 5 2 1 0 9) State.reset) (fun s => decide (s.config = State.reset.config)) = true := by
  decide +kernel

/-- SET_SPEED_TABLE takes six entries and refuses seven with field 2 (R129). -/
theorem test_speed_table_bounds :
    let e : Nat → Half × Half := fun k => (BitVec.ofNat 16 (1000 * k), BitVec.ofNat 16 (600 - 10 * k))
    nextIs (exec (.setSpeedTable 1 1 ((List.range 6).map e)) State.reset)
      (fun s => decide ((s.boat.get .t1).speedTable.length = 6)) = true ∧
    nextIs (exec (.setSpeedTable 1 1 ((List.range 7).map e)) State.reset)
      (fun s => decide ((s.boat.get .t1).speedTable = [] ∧ s.link.tx = some (.reply
        { fromRequest := true, kind := 0xFE, tag := 1, payloads := [[0x50, 0x03, 2]], restarts := false }))) = true := by
  decide +kernel

theorem witness_TorchesStaySound : (torch .lit steam steam 0).torchesSound := witness_LostFlameShutsTheHydrogen.1

/-- A pass over a bank whose demands exceed the budget of 10 kW: the three zones of tube 1 share it to the watt. -/
theorem witness_AllocationStaysWithinTheBudget :
    let z : ZoneRec := { ZoneRec.reset with demand := 500 }
    let s := (bank .running (some 0)).setThermal .t1
      { (bank .running (some 0)).thermal.get .t1 with zones := { PerZone.all ZoneRec.reset with z1 := z, z2 := z, z3 := z } }
    let s := s.setAlloc { s.alloc with budget := some 10 }
    nextIs (exec .allocationPass s) (fun n => decide (n.alloc.grantedTotal = 10000 ∧
      (n.alloc.zone .t1 .z1).grant = 3334 ∧ (n.alloc.zone .t1 .z3).grant = 3333 ∧
      (n.alloc.zone .t1 .z1).firing = 333 ∧ n.alloc.pointers.soak = 2)) = true := by decide +kernel

/-! ### Witnesses of the widened clauses -/

/-- A readable recipe slot and a log of two records from 5 on. -/
theorem witness_QueriesChangeOnlyTheLink_content :
    let r : LogRec := { seq := 5, stamp := 0, tube := none, kind := .shedActive, level := 1, action := .advisory,
                        tubeState := none, mask := none, listStep := none, place := none, measured := none, limit := none }
    let f : Faults := { State.reset.faults with log := [r, { r with seq := 6 }], nextSeq := 7 }
    f.nextSeq < (8 : Quad).toNat ∧ (4 : Quad).toNat ≤ f.nextSeq ∧ f.log ≠ [] ∧
    (4 : Quad).toNat < (f.log.head?.map LogRec.seq).getD 0 ∧ (f.log.head?.map LogRec.seq).getD 0 ≤ (5 : Quad).toNat ∧
    slotField 17 = none ∧ slotField 1 = some 0 ∧ ListSel.ofCode (0 : Byte).toNat = some .main ∧ 48 < (49 : Byte).toNat ∧
    (bank .idle none).store.recipe? 0 = some (recipe 0) ∧ (recipe 0).main[(2 : Byte).toNat - 1]? = some plain ∧
    (recipe 0).mainCount < (3 : Byte).toNat ∧ loading.store.recipe? 0 ≠ none := by decide

/-- The uncommissioned bank of `configured` with its lines clear and a temperature in every zone of tube 1. -/
def quietBank : State :=
  let z : ZoneRec := { ZoneRec.reset with profile := .temp 5000, spike := .temp 5000 }
  { (configured.setFaults { configured.faults with interlock := true, exhaust := true }) with
    thermal := configured.thermal.set .t1 { ThermalRec.reset with zones := PerZone.all z } }

theorem witness_CommissionChecksAndLocks_fitted : quietBank.canTake = true ∧ quietBank.config.locked = false ∧
    quietBank.alloc.budget ≠ none ∧ (quietBank.tubeConfig .t1).status = .fitted ∧
    (∀ t ∈ Tube.list, (quietBank.tubeConfig t).status ≠ .unconfigured ∧ quietBank.runState t = .offline ∧
      (quietBank.atm.get t).state = .stable ∧ (quietBank.atm.get t).cls = .inert ∧
      (quietBank.atm.get t).safeHold = false ∧ quietBank.gas.granted.get t = { n2 := 0, o2 := 0, h2 := 0, aux := 0 } ∧
      (quietBank.boat.get t).state = .ready ∧ (quietBank.thermal.get t).inhibit = .clear) ∧
    quietBank.gas.queue = [] ∧ quietBank.alloc.shed = false ∧ quietBank.faults.hydrogen = false ∧
    quietBank.faults.interlock = true ∧ quietBank.faults.exhaust = true ∧
    (let r := (quietBank.thermal.get .t1).zones.get .z3
     r.tcOpenHolds = false ∧ r.overtempHolds (quietBank.tubeConfig .t1) = false ∧
       r.disagreeHolds (quietBank.tubeConfig .t1) = false) := by decide

/-- A bank whose tube 1 runs a recipe of one step `st`, at its end, with the tail `tail`. -/
def lastStep (rs : RunState) (st : Step) (tail : List Step) : State :=
  let s := bank rs (some 0)
  let s := s.setStore (s.store.setSlot 0 (some { recipe 1 with mainCount := 1, main := [st], tail := tail }))
  s.setRun .t1 { s.run.get .t1 with timer := 60 }

/-- A TIME step that carries an N2 flow. -/
def gasStep : Step := { plain with flows := { n2 := some 1000, o2 := none, h2 := some 0, aux := none } }

theorem witness_PlainStepIsEntered_gas :
    let s := (bank .running (some 0)).setStore
      ((bank .running (some 0)).store.setSlot 0 (some { recipe 1 with main := [plain, gasStep] }))
    let asked : Flows := { n2 := 1000, o2 := 0, h2 := 0, aux := 0 }
    s.canTake = true ∧ s.currentStep .t1 = some plain ∧ gasStep.hasGas = true ∧ gasStep.move = none ∧
    (s.recipeOf .t1).bind (fun r => r.step? .main 2) = some gasStep ∧ (s.atm.get .t1).state = .stable ∧
    (s.atm.get .t1).safeHold = false ∧ (s.atm.get .t1).cls = classOf asked ∧ s.gas.queue = [] ∧
    (∀ l ∈ GasLine.list, s.gas.grantedSum l (fun u => u ≠ .t1) + asked.get l ≤
      1000 * s.config.bank.headers.get l) := by decide

theorem witness_StepTimerRunsInRunningAndAborting_met :
    let s := (bank .aborting (some 0)).setRun .t1 { (bank .aborting (some 0)).run.get .t1 with timer := 59 }
    s.runState .t1 = .aborting ∧ s.currentStep .t1 = some plain ∧
      RunRec.condMet { s.run.get .t1 with timer := 60 } plain = true ∧
      RunRec.condMet { s.run.get .t1 with tempView := true } { plain with endCond := .temp } = true ∧
      RunRec.condMet (s.run.get .t1) { plain with endCond := .all } = false := by decide

theorem witness_AbortWalksTheTail_emptyTail :
    let s := lastStep .holding plain []
    s.canTake = true ∧ (s.run.get .t1).recipe = some 0 ∧ ((s.store.recipe? 0).map fun r => r.tail) = some [] ∧
    (s.atm.get .t1).state = .stable ∧ (s.atm.get .t1).cls = .inert ∧ s.gas.queue = [] ∧
    (∀ l ∈ GasLine.list, s.gas.grantedSum l (fun u => u ≠ .t1) + (PerLine.get ⟨5000, 0, 0, 0⟩ l) ≤
      1000 * s.config.bank.headers.get l) := by decide

theorem witness_AbortWalksTheTail_waiting :
    let a := waiting.atm.get .t1
    waiting.canTake = true ∧ waiting.runState .t1 = .holding ∧ waiting.gas.queue.length = 1 ∧ a.state = .waitHeader ∧
    a.waitOrigin = .stable ∧ waiting.gas.granted.get .t1 = a.inForce ∧ a.cls = classOf a.inForce ∧ a.cls ≠ .steam ∧
    (waiting.boat.get .t1).state ≠ .waitCond ∧ waiting.recipeOf .t1 = some (recipe 1) := by decide

theorem witness_RunEndsAndIdleBehaviourFollows_exec :
    let s := lastStep .running plain []
    s.inReset = false ∧ s.runState .t1 = .running ∧ s.currentStep .t1 = some plain ∧
    plain.duration ≤ (s.run.get .t1).timer ∧ (s.recipeOf .t1).bind (fun r => r.step? .main 2) = none ∧
    (s.atm.get .t1).safeHold = false ∧ (s.atm.get .t1).cls = .inert ∧ (crowded 0).link.tx.isSome = true ∧
    (crowded 0).link.notices.length ≤ 30 ∧ s.gas.queue = [] := by decide

/-- Each clause of a onset row that changes nothing, at the boundary of its condition. -/
theorem witness_OnsetsAreReportedOnce_absent :
    ((bank .running (some 0)).thermal.get .t1).counter ≤ ((bank .running (some 0)).thermal.get .t1).params.holdback ∧
    ({ boatAt .settle with phaseTimer := 10 } : BoatRec).phaseTimer ≤ 10 ∧
    Sys2Proof.dist 1000 1010 ≤ 10 ∧ (waiting.gas.entry? .t1).map (fun e => e.age) = some 3 ∧
    3 ≤ waiting.config.bank.waitTimeout ∧ ({ boatAt .shutterClosing with phaseTimer := 30 } : BoatRec).phaseTimer ≤ 30 := by
  decide

/-- FLOW_READBACK of nitrogen at the boat minimum and just below it, for a travelling and a waiting boat. -/
theorem witness_GasRowsOfTheArbiter_boat :
    let s := boat { boatAt .travel with target := some 5000 }
    let w := boat { boatAt .waitCond with target := some 5000, shutter := .opened }
    s.inReset = false ∧ (s.boat.get .t1).state = .travel ∧ (s.boat.get .t1).pauseHold = false ∧
    min 65535 1999 < (s.tubeConfig .t1).boatN2Min ∧ ¬ min 65535 2000 < (s.tubeConfig .t1).boatN2Min ∧
    (w.boat.get .t1).pos ≠ none ∧ (w.boat.get .t1).measured ≠ none ∧ (w.atm.get .t1).state = .stable ∧
    (w.boat.get .t1).holdFlag = false ∧ (w.boat.get .t1).shutter = .opened ∧
    (boatAt .paused).pauseN2 = false := by decide

/-- GAS_TICK on a bank whose tube 1 purges: the readback of N2 counts, the ages and the wait go on. -/
theorem witness_GasRowsOfTheArbiter_tick :
    let s := torch .purge { n2 := 15000, o2 := 0, h2 := 0, aux := 0 } steam 0
    let a := { s.atm.get .t1 with purgeTarget := 400000, purgeLimit := 4800, purgeRemainder := 59 }
    let s := (s.setGas (s.gas.writeReadback .t1 .n2 15001)).setAtm .t1 a
    s.runState .t1 ≠ .offline ∧ nextIs (exec (.gasTick .t1) s) (fun n => decide
      ((n.atm.get .t1).purgeVolume = 251 ∧ (n.atm.get .t1).purgeRemainder = 0 ∧ (n.atm.get .t1).purgeTimer = 1 ∧
        ((n.gas.lines.get .t1).get .n2).age = 1)) = true := by decide +kernel

theorem witness_AdmissionTestKeepsTheHeaders_queue :
    waiting.gas.entry? .t2 = none ∧ waiting.gas.queue ≠ [] ∧
    (waiting.gas.granted.get .t2).get .n2 < oxygen.get .o2 ∧
    (waiting.gas.submit waiting.config.bank.headers .t2 oxygen).2.1 = .queued ∧
    (∀ l ∈ GasLine.list, (bank .idle none).gas.grantedSum l (fun u => u ≠ .t1) + oxygen.get l ≤
      1000 * (bank .idle none).config.bank.headers.get l) ∧
    1000 * (bank .idle none).config.bank.headers.get .o2 < PerLine.get ({ oxygen with o2 := 50001 } : Flows) .o2 := by
  decide

theorem witness_TorchesStaySound_ratios :
    (torch .lit steam steam 0).ratiosKept ∧ (torch .ignite { steam with h2 := 2000 } steam 5).ratiosKept := by
  refine ⟨⟨?_, fun h => absurd h (by decide)⟩, ⟨?_, fun h => absurd h (by decide)⟩⟩ <;>
    (intro t; cases t <;> (unfold State.hydrogenBounded; decide))

theorem witness_ClassAndClampOfFlows :
    (waiting.gas.entry? .t1).isSome = true ∧
    (waiting.gas.submit waiting.config.bank.headers .t2 { oxygen with o2 := 0 }).2.1 = .applied ∧
    (waiting.atm.get .t1).waitOrigin = .stable ∧ (waiting.atm.get .t1).targetClass = .inert ∧
    ((torch .preflow oxygen steam 0).atm.get .t1).targetClass = .steam ∧
    (torch .lit steam steam 0).gas.granted.get .t1 = ((torch .lit steam steam 0).atm.get .t1).inForce := by decide

/-- A jog of tube 1 to 100.0 mm, where the boat of each state stands, and to 200.0 mm. -/
theorem witness_SpeedTableAndJog_retarget :
    let s := boat { boatAt .travel with target := some 5000, measured := some 1011 }
    s.canTake = true ∧ s.runState .t1 = .idle ∧ (1000 : Half).toNat ≤ (s.tubeConfig .t1).travel ∧
    (s.boat.get .t1).state ≠ .ready ∧ (s.boat.get .t1).state ≠ .stalled ∧ (s.atm.get .t1).state ≠ .preflow ∧
    (s.boat.get .t1).pos = some (1000 : Half).toNat ∧ (s.boat.get .t1).pos ≠ some (2000 : Half).toNat ∧
    10 < Sys2Proof.dist (1000 : Half).toNat 1011 := by decide

theorem witness_BoatTravelsToTheUnit_settle :
    let b := { boatAt .settle with target := some 1000, phaseTimer := 10 }
    let v := min 100 (min 600 600)
    b.pos = some 1000 ∧ Sys2Proof.dist 1000 1010 ≤ 10 ∧ 10 < Sys2Proof.dist 1000 1011 ∧ 10 ≤ b.phaseTimer ∧
    Sys2Proof.dist 1010 1000 ≤ (0 + 10 * v) / 60 ∧ 10 < Sys2Proof.dist 1010 1021 ∧
    Sys2Proof.dist 1010 1021 ≤ ((boat b).tubeConfig .t1).stallLimit ∧
    speedLimit [(100, 300), (4000, 50)] (.temp 4000) = 50 ∧ speedLimit [(100, 300), (4000, 50)] (.temp 99) = 600 ∧
    speedLimit [(100, 300), (4000, 50)] .isOpen = 50 ∧ speedLimit [] .absent = 10 := by decide

theorem witness_BankLinesAndLogWrap_wrap :
    let s := (bank .running (some 0)).setFaults { (bank .running (some 0)).faults with nextSeq := 4294967295 }
    s.inReset = false ∧ s.runState .t1 ≠ .offline ∧ (s.faults.policyOf .deviation).enable = true := by decide

/-- A bank whose tube 1 holds a DEVIATION entry that its first-fault pointer names. -/
def pointed : State :=
  let f := (bank .running (some 0)).faults.setEntry .t1 .deviation (some { count := 1, acted := true, stamp := 0 })
  (bank .running (some 0)).setFaults { f with pointer := f.pointer.set .t1 (some .deviation) }

theorem witness_FixedPolicyAndLogStaySound_pointers : pointed.pointersSound ∧
    pointed.faults.pointer.get .t1 = some .deviation := by
  refine ⟨?_, by decide⟩
  intro t k; cases t <;> cases k <;> decide

/-- A record written with the numbering at its maximum: the log holds that one record, numbered 0 (R151). -/
theorem test_log_wrap :
    let s := (bank .running (some 0)).setFaults { (bank .running (some 0)).faults with nextSeq := 4294967295 }
    nextIs (exec (.bankLineEdge .hydrogen true) s) (fun n => decide
      (n.faults.nextSeq = 1 ∧ n.faults.log.map (fun r => (r.seq, r.kind)) = [(0, .h2Detected)])) = true := by
  decide +kernel

/-- Two lines whose runs reach 10 at one tick are both reported, though the first report takes the tube to SAFE and
writes its lines (R98). -/
theorem test_two_deviations_at_one_tick :
    let s := bank .running (some 0)
    let l : LineRec := { LineRec.resetAt true with command := 5000, readback := some 0, age := 20, devRun := 9 }
    let s := s.setGas { s.gas with lines := s.gas.lines.set .t1 { n2 := l, o2 := l, h2 := LineRec.resetAt false,
                                                                  aux := LineRec.resetAt false } }
    let f := s.faults
    let s := s.setFaults { f with
      policy := f.policy.set FaultKind.flowDeviation.index.val { enable := true, level := 7, action := .safe } }
    nextIs (exec (.gasTick .t1) s) (fun n => decide (n.runState .t1 = .safe ∧
      n.faults.log.map (fun r => (r.kind, r.place)) = [(.flowDeviation, some 0), (.flowDeviation, some 1)])) = true := by
  decide +kernel

/-! ### Witnesses of the refusals at the first field out of range -/

theorem witness_ConfigurationIsWrittenUntilLocked_fields : State.reset.canTake = true ∧
    State.reset.config.locked = false ∧ wellFormed (.configureTube 1 0 1 3 fields) = true ∧
    4 < (5 : Byte).toNat ∧ 1 < (2 : Byte).toNat ∧ 200 < (201 : Byte).toNat ∧ (9 : Byte).toNat < 10 ∧
    600 < (601 : Half).toNat ∧ 3600 < (3601 : Half).toNat := by decide

theorem witness_RunIsRefusedInItsOrder_fields : State.reset.canTake = true ∧ (0 : Byte).toNat = 0 ∧
    4 < (5 : Byte).toNat ∧ 16 < (17 : Byte).toNat := by decide

theorem witness_PlainStepIsEntered_refused : (bank .idle none).canTake = true ∧ tubeField 4 = some .t4 ∧
    (bank .idle none).runState .t4 ≠ .running ∧ State.reset.canTake = true ∧
    State.reset.runState .t4 = .offline := by decide

theorem witness_RecipeOpenReservesTheDeclaredRecords_slot : State.reset.canTake = true ∧
    wellFormed (.recipeOpen 1 17 [0x41] 7 0 3 1 0) = true ∧ 16 < (17 : Byte).toNat := by decide

theorem witness_LoadsEndAndIdleRecipesDrop_slot : loading.canTake = true ∧ 16 < (17 : Byte).toNat := by decide

theorem witness_LoadTuningWritesTheBankAndLimits_field :
    let e : TuningFields := { kp := 9999, ki := 0, lmax := 1001 }
    State.reset.canTake = true ∧ (7 : Byte).toNat ≤ 7 ∧ ([e, e, e, e, e].flatMap fun e =>
      [(e.kp, 9999), (e.ki, 9999), (e.lmax, 1000)]).take 3 = [((9999 : Half), 9999), (0, 9999), (1001, 1000)] ∧
    1000 < (1001 : Half).toNat := by decide

theorem witness_LostFlameShutsTheHydrogen_preflow :
    let s := (bank .running (some 0)).setAtm .t1 { (bank .running (some 0)).atm.get .t1 with state := .preflow }
    s.inReset = false ∧ (s.atm.get .t1).state = .preflow ∧
    (s.atm.get .t1).phaseTimer < (s.tubeConfig .t1).preflowTime := by decide

theorem witness_SpeedTableAndJog_fields : (boat (boatAt .ready)).canTake = true ∧ 24000 < (24001 : Half).toNat ∧
    (9 : Half).toNat < 10 ∧ 4 < (5 : Byte).toNat ∧ ([((4000 : Half), (600 : Half))] ++ (4000, 100) :: []).length ≤ 6 ∧
    [((4000 : Half), (600 : Half))].getLast? = some (4000, 600) ∧ ¬ (4000 : Half).toNat < (4000 : Half).toNat ∧
    (600 : Half).toNat < (601 : Half).toNat := by decide

theorem witness_PolicyAndClearingOfFaults_fields : State.reset.canTake = true ∧ 19 < (20 : Byte).toNat ∧
    1 < (2 : Byte).toNat ∧ 7 < (8 : Byte).toNat ∧ 4 < (5 : Byte).toNat ∧
    ([(1 : Byte), 19] ++ 20 :: []).length ≤ 19 := by decide

/-- QUERY_BOAT: a pending move has its yes/no byte and its target a presence byte (R137, R166). -/
theorem test_boat_query_move_bytes :
    ((boat { boatAt .travel with target := some 1000 }).boatContent .t1).take 6 = [3, 1, 1, 0x03, 0xE8, 0x00] ∧
    ((boat (boatAt .ready)).boatContent .t1).take 3 = [0, 0, 0] := by decide

/-! ### Witnesses of the tables' numbers and of SHED_ACTIVE -/

theorem witness_SampleArrivalIsWrittenAndJudged_edges : (bank .running (some 0)).inReset = false ∧
    Zone.z3.number ≤ ((bank .running (some 0)).tubeConfig .t1).activeZones ∧
    ((bank .running (some 0)).thermal.get .t1).runState ≠ .offline ∧
    ((bank .running (some 0)).thermal.get .t4).runState = .offline ∧
    ((bank .running (some 0)).tubeConfig .t1).activeZones < Zone.z5.number := by decide

theorem witness_BankLinesAndLogWrap_shed : (bank .running (some 0)).runState .t1 ≠ .offline ∧
    ((bank .running (some 0)).faults.policyOf .shedActive).enable = true ∧
    (bank .running (some 0)).faults.nextSeq < 4294967295 ∧ (bank .running (some 0)).faults.log.length ≤ 64 ∧
    State.reset.runState .t1 = .offline := by decide

theorem witness_ConfigurationIsWrittenUntilLocked_number :
    wellFormed (.configureTube 1 1 1 3 { fields with starveLimit := 9 }) = true ∧
    firstFail (tubeChecks 3 { fields with starveLimit := 9 }) = some 29 ∧ (9 : Half).toNat < 10 ∧
    firstFail (tubeChecks 2 fields) = some 3 ∧ State.reset.canTake = true := by decide

/-- An open load whose next step is refused at field 15, and a list of the wrong length at field 3 (R32, R37). -/
theorem witness_RecipeStepIsStoredInOrder_number :
    let r : RawStep := { endCond := some 0, duration := some 1, targets := none, rate := none, band := none, holdback := none,
                         lockstep := none, n2 := none, o2 := none, h2 := none, aux := none, move := none, bank := none,
                         mask := some 7 }
    loading.canTake = true ∧ wellFormed (.recipeStep 1 0 1 r) = true ∧ 6 < (7 : Byte).toNat ∧
    (loading.store.load.map fun c => (c.slot, c.next)) = some (0, .step .main 1) ∧
    (loading.store.recipe? 0).isSome = true ∧ ListSel.ofCode (0 : Byte).toNat = some .main ∧
    ((stepChecks 3 r).find? fun k => !k.2.2).map (fun k => (k.1, k.2.1)) = some (.badField, 15) ∧
    ((stepChecks 3 { r with targets := some [] }).find? fun k => !k.2.2).map (fun k => (k.1, k.2.1)) =
      some (.mismatch, 3) := by decide

/-- A recipe whose second main step asks for more N2 than the tube has (R8). -/
theorem witness_RunIsRefusedInItsOrder_range :
    let c : TubeConfig := TubeConfig.reset
    let big : Step := { plain with flows := { plain.flows with n2 := some 1 } }
    c.recipeRange { recipe 0 with main := [plain, big] } = some (0, 2, 8) ∧ plain.hasGas = false ∧ plain.move = none ∧
    c.scale.n2 < 1 := by decide

end Sys2Proof.Tests
end

/-! SUPPORT. The requests of the recipe store on the line: a well-formed one decodes from its own frame, and one that
completes while the link may take it is served in the same event (R159, R160, R166, R169). -/

namespace Sys2Proof.RecipeRequests

open Sys2Proof.Machine

/-! ### A request taken at once -/

/-- The frame of a request that decodes from it is answered by the request's owner (R160). -/
theorem answerFrame_requestFrame {r : Request} (s : State) (tag : Byte)
    (hd : decodeRequest (requestKind r) (requestPayload r) = .request r) :
    s.answerFrame (requestFrame r tag) = s.serve r := by
  simp [State.answerFrame, requestFrame, hd]

/-- A good frame that completes while nothing waits and the link is ready is taken in the same event (R159, R160). -/
theorem completeGood_of_canTake {s : State} (h : s.canTake = true) (f : Frame) : s.completeGood f = s.takeFrame f := by
  simp only [State.canTake, Bool.and_eq_true, List.isEmpty_iff] at h
  obtain ⟨⟨-, hempty⟩, hready⟩ := h
  have hqueued : ({ s.link with requests := [f] } : Link).ready = true := hready
  have hback : (s.setLink { s.link with requests := [f] }).setLink { s.link with requests := [] } = s := by
    simp [State.setLink, ← hempty]
  simp [State.completeGood, State.takeAll, takeRequests, hempty, hqueued, hback]

/-- A request that decodes from its frame and completes while the link may take it is served and answered in the same
event (R159, R160). -/
theorem host_of_serve {s s' : State} {r : Request} {a : Answer} {tag : Byte} (h : s.canTake = true)
    (hd : decodeRequest (requestKind r) (requestPayload r) = .request r) (hs : s.serve r = (s', a)) :
    s.host tag r = .next (s'.replied r tag a) := by
  have hreset : s.inReset = false := by simp_all [State.canTake]
  rw [State.host, State.act_eq hreset, completeGood_of_canTake h, State.takeFrame, answerFrame_requestFrame s tag hd, hs]
  rfl

/-! ### Reading back what was written (R166) -/

theorem half?_u16 (n : Nat) (p : List Byte) : half? (u16 n ++ p) = some (BitVec.ofNat 16 n, p) := by
  have hbytes : (BitVec.ofNat 8 (n / 256) ++ BitVec.ofNat 8 n : BitVec (8 + 8)) = BitVec.ofNat 16 n := by
    apply BitVec.eq_of_toNat_eq
    rw [BitVec.toNat_append, ← Nat.shiftLeft_add_eq_or_of_lt (BitVec.isLt _), Nat.shiftLeft_eq]
    simp only [BitVec.toNat_ofNat]
    omega
  exact congrArg (fun h : Half => some (h, p)) hbytes

/-- Items read one by one are the items that were written one by one. -/
theorem items?_flatMap {α : Type} {f : List Byte → Option (α × List Byte)} {g : α → List Byte}
    (hfg : ∀ x p, f (g x ++ p) = some (x, p)) (l : List α) (p : List Byte) :
    items? f l.length (l.flatMap g ++ p) = some (l, p) := by
  induction l with
  | nil => rfl
  | cons x l ih => simp [items?, hfg, ih]

/-- A list whose count fits one byte reads back. -/
theorem list?_counted {α : Type} {f : List Byte → Option (α × List Byte)} {g : α → List Byte}
    (hfg : ∀ x p, f (g x ++ p) = some (x, p)) {l : List α} (hl : l.length < 256) (p : List Byte) :
    list? f (counted l g ++ p) = some (l, p) := by
  have hcount : (BitVec.ofNat 8 l.length).toNat = l.length := by
    rw [BitVec.toNat_ofNat]
    omega
  simp [list?, counted, u8, hcount, items?_flatMap hfg]

theorem byte?_singleton (b : Byte) (p : List Byte) : byte? ([b] ++ p) = some (b, p) := rfl

theorem pair?_halfBytes (m : Half × Half) (p : List Byte) :
    pair? (halfBytes m.1 ++ halfBytes m.2 ++ p) = some (m, p) := by
  simp [pair?]

/-! ### The step record (R169) -/

/-- Which fields of a step record are present, in the order of the bits of its presence word. -/
def presence (s : RawStep) : Fin 14 → Bool :=
  ![s.endCond.isSome, s.duration.isSome, s.targets.isSome, s.rate.isSome, s.band.isSome, s.holdback.isSome,
    s.lockstep.isSome, s.n2.isSome, s.o2.isSome, s.h2.isSome, s.aux.isSome, s.move.isSome, s.bank.isSome,
    s.mask.isSome]

theorem present_eq {α : Type} (o : Option α) (v : Nat) : present o v = v * o.isSome.toNat := by
  cases o <;> simp [present]

/-- The presence word has one bit per field (R169). -/
theorem stepWord_eq_ofBits (s : RawStep) : stepWord s = Nat.ofBits (presence s) := by
  simp only [stepWord, present_eq, presence, Nat.ofBits, Fin.foldr_succ, Fin.foldr_zero, Matrix.cons_val_zero,
    Matrix.cons_val_succ]
  omega

theorem stepWord_lt (s : RawStep) : stepWord s < 16384 := by
  rw [stepWord_eq_ofBits]
  exact Nat.ofBits_lt_two_pow _

theorem stepWord_testBit (s : RawStep) (i : Fin 14) : (stepWord s).testBit i = presence s i := by
  rw [stepWord_eq_ofBits]
  exact Nat.testBit_ofBits_lt _ _ i.isLt

/-- A field whose bit says whether it is present reads back, and the reading goes on behind it. -/
theorem fieldIf_bind {α β : Type} {w bit : Nat} {f : List Byte → Option (α × List Byte)} {g : α → List Byte}
    {o : Option α} (hbit : w.testBit bit = o.isSome) (hfg : ∀ v ∈ o, ∀ p, f (g v ++ p) = some (v, p))
    (p : List Byte) (k : Option α × List Byte → Option β) :
    (fieldIf w bit f (ifPresent o g ++ p)).bind k = k (o, p) := by
  cases o with
  | none => simp [fieldIf, ifPresent, hbit]
  | some v => simp [fieldIf, ifPresent, hbit, hfg v rfl]

/-- A step record reads back, its list of targets being countable in one byte (R169). -/
theorem rawStep?_stepBytes (s : RawStep) (hl : ∀ l ∈ s.targets, l.length < 256) (p : List Byte) :
    rawStep? (stepBytes s ++ p) = some (s, p) := by
  have hword : (BitVec.ofNat 16 (stepWord s)).toNat = stepWord s := by
    have := stepWord_lt s
    rw [BitVec.toNat_ofNat]
    omega
  have hsmall : ¬ 16384 ≤ stepWord s := by simpa using stepWord_lt s
  have hbytes (i : Fin 14) {o : Option Byte} (hb : presence s i = o.isSome) (q : List Byte)
      (k : Option Byte × List Byte → Option (RawStep × List Byte)) :
      (fieldIf (stepWord s) i byte? (ifPresent o (fun b => [b]) ++ q)).bind k = k (o, q) :=
    fieldIf_bind ((stepWord_testBit s i).trans hb) (fun v _ => byte?_singleton v) q k
  have hhalves (i : Fin 14) {o : Option Half} (hb : presence s i = o.isSome) (q : List Byte)
      (k : Option Half × List Byte → Option (RawStep × List Byte)) :
      (fieldIf (stepWord s) i half? (ifPresent o halfBytes ++ q)).bind k = k (o, q) :=
    fieldIf_bind ((stepWord_testBit s i).trans hb) (fun v _ => half?_halfBytes v) q k
  have htargets (q : List Byte) (k : Option (List Half) × List Byte → Option (RawStep × List Byte)) :
      (fieldIf (stepWord s) 2 (list? half?) (ifPresent s.targets (fun l => counted l halfBytes) ++ q)).bind k =
        k (s.targets, q) :=
    fieldIf_bind (stepWord_testBit s 2) (fun l hmem => list?_counted half?_halfBytes (hl l hmem)) q k
  have hmove (q : List Byte) (k : Option (Half × Half) × List Byte → Option (RawStep × List Byte)) :
      (fieldIf (stepWord s) 11 pair? (ifPresent s.move (fun m => halfBytes m.1 ++ halfBytes m.2) ++ q)).bind k =
        k (s.move, q) :=
    fieldIf_bind (stepWord_testBit s 11) (fun m _ => pair?_halfBytes m) q k
  unfold rawStep? stepBytes
  simp only [List.append_assoc]
  rw [half?_u16]
  dsimp only [Option.bind_eq_bind, Option.bind_some]
  rw [hword, if_neg hsmall]
  calc
    _ = _ := hbytes 0 rfl _ _
    _ = _ := hhalves 1 rfl _ _
    _ = _ := htargets _ _
    _ = _ := hbytes 3 rfl _ _
    _ = _ := hhalves 4 rfl _ _
    _ = _ := hhalves 5 rfl _ _
    _ = _ := hbytes 6 rfl _ _
    _ = _ := hhalves 7 rfl _ _
    _ = _ := hhalves 8 rfl _ _
    _ = _ := hhalves 9 rfl _ _
    _ = _ := hhalves 10 rfl _ _
    _ = _ := hmove _ _
    _ = _ := hbytes 12 rfl _ _
    _ = _ := hbytes 13 rfl _ _

/-! ### The requests of the recipe store -/

theorem decode_recipeClose : decodeRequest (requestKind .recipeClose) (requestPayload .recipeClose) =
    .request .recipeClose := rfl

theorem decode_recipeCancel : decodeRequest (requestKind .recipeCancel) (requestPayload .recipeCancel) =
    .request .recipeCancel := rfl

theorem decode_recipeDrop (x : Byte) : decodeRequest (requestKind (.recipeDrop x)) (requestPayload (.recipeDrop x)) =
    .request (.recipeDrop x) := rfl

theorem decode_recipeDropOwner (o : Byte) :
    decodeRequest (requestKind (.recipeDropOwner o)) (requestPayload (.recipeDropOwner o)) =
      .request (.recipeDropOwner o) := rfl

theorem decode_recipeOpen {name : List Byte} (hn : name.length < 256) (x o r z m k : Byte) :
    decodeRequest (requestKind (.recipeOpen x name o r z m k)) (requestPayload (.recipeOpen x name o r z m k)) =
      .request (.recipeOpen x name o r z m k) := by
  have hread : recipeOpen? (requestPayload (.recipeOpen x name o r z m k)) =
      some (.recipeOpen x name o r z m k, []) := by
    simp [recipeOpen?, requestPayload, list?_counted byte?_singleton hn]
  exact congrArg whole hread

theorem decode_recipeStep {r : RawStep} (hl : ∀ l ∈ r.targets, l.length < 256) (l x : Byte) :
    decodeRequest (requestKind (.recipeStep l x r)) (requestPayload (.recipeStep l x r)) =
      .request (.recipeStep l x r) := by
  have hread : recipeStep? (requestPayload (.recipeStep l x r)) = some (.recipeStep l x r, []) := by
    have hstep : rawStep? (stepBytes r) = some (r, []) := by simpa using rawStep?_stepBytes r hl []
    simp [recipeStep?, requestPayload, hstep]
  exact congrArg whole hread

/-- A command that a frame can carry has a payload of at most 248 bytes (R156). -/
theorem payload_length_of_wellFormed {i : Instr} {tag : Byte} {r : Request} (hi : instrRequest i = some (tag, r))
    (hw : wellFormed i = true) : (requestPayload r).length ≤ 248 := by
  simp only [wellFormed, hi, requestWellFormed, payloadFits, Bool.and_eq_true, decide_eq_true_eq] at hw
  exact hw.1

theorem length_le_length_counted {α : Type} {g : α → List Byte} (hg : ∀ x, 1 ≤ (g x).length) (l : List α) :
    l.length ≤ (counted l g).length := by
  induction l with
  | nil => simp
  | cons x l ih =>
    have := hg x
    simp only [counted, u8, List.length_append, List.flatMap_cons, List.length_cons] at ih ⊢
    omega

theorem name_length_of_wellFormed {tag x o r z m k : Byte} {name : List Byte}
    (hw : wellFormed (.recipeOpen tag x name o r z m k) = true) : name.length < 256 := by
  have hpayload := payload_length_of_wellFormed rfl hw
  have hname := length_le_length_counted (g := fun b : Byte => [b]) (fun _ => le_rfl) name
  simp only [requestPayload, List.length_append, List.length_cons] at hpayload
  omega

theorem targets_length_of_wellFormed {tag l x : Byte} {r : RawStep} (hw : wellFormed (.recipeStep tag l x r) = true) :
    ∀ ts ∈ r.targets, ts.length < 256 := by
  intro ts hts
  have hpayload := payload_length_of_wellFormed rfl hw
  have htargets := length_le_length_counted (g := halfBytes) (fun _ => Nat.le_succ 1) ts
  have hpart : (ifPresent r.targets fun l => counted l halfBytes) = counted ts halfBytes := by
    rw [Option.mem_def.1 hts]; rfl
  simp only [requestPayload, stepBytes, hpart, List.length_append, List.length_cons] at hpayload
  omega

end Sys2Proof.RecipeRequests

/-! SUPPORT. The check of a step record, field by field: when each check passes, which check fails first, and the step
that a record which passes stands for (R32, R37). -/

namespace Sys2Proof.RecipeRecords

open Sys2Proof.Machine

/-! ### When one check passes -/

theorem optOk_iff {α : Type} (o : Option α) (p : α → Bool) :
    optOk o p = true ↔ ∀ v, o = some v → p v = true := by
  cases o <;> simp [optOk]

theorem within_iff (lo hi n : Nat) : within lo hi n = true ↔ lo ≤ n ∧ n ≤ hi := by
  simp [within]

theorem yesNo_isSome_iff (b : Byte) : (yesNo b).isSome = true ↔ b.toNat ≤ 1 := by
  unfold yesNo
  generalize b.toNat = n
  rcases n with _ | _ | n <;> simp

theorem endCond_ofCode_isSome_iff (n : Nat) : (EndCond.ofCode n).isSome = true ↔ n ≤ 4 := by
  match n with
  | 0 | 1 | 2 | 3 | 4 => simp [EndCond.ofCode]
  | n + 5 => simp [EndCond.ofCode]

theorem endCond_check_iff (o : Option Byte) :
    (o.bind fun b => EndCond.ofCode b.toNat).isSome = true ↔ ∃ b, o = some b ∧ b.toNat ≤ 4 := by
  cases o <;> simp [endCond_ofCode_isSome_iff]

theorem duration_check_iff (o : Option Half) :
    (o.map fun h => decide (1 ≤ h.toNat)).getD false = true ↔ ∃ d, o = some d ∧ 1 ≤ d.toNat := by
  cases o <;> simp

/-! ### The fields of a record -/

/-- Every check of a field passes. -/
def fieldPasses (zones : Nat) (r : RawStep) (k : Nat) : Prop :=
  ∀ c ∈ stepChecks zones r, c.2.1 = k → c.2.2 = true

/-- A list of targets that is present has the recipe's zone count (R32). -/
def targetsSized (zones : Nat) (r : RawStep) : Prop := ∀ ts, r.targets = some ts → ts.length = zones

/-- The range of each field in the table of R32; field 6, the holdback limit, has none. -/
def fieldInRange (zones : Nat) (r : RawStep) (k : Nat) : Prop :=
  match k with
  | 1 => ∃ b, r.endCond = some b ∧ b.toNat ≤ 4
  | 2 => ∃ d, r.duration = some d ∧ 1 ≤ d.toNat
  | 3 => targetsSized zones r ∧ ∀ ts, r.targets = some ts → ∀ h ∈ ts, 2000 ≤ h.toNat ∧ h.toNat ≤ 12500
  | 4 => ∀ b, r.rate = some b → 1 ≤ b.toNat ∧ b.toNat ≤ 200
  | 5 => ∀ h, r.band = some h → h.toNat = 0 ∨ 5 ≤ h.toNat ∧ h.toNat ≤ 500
  | 7 => ∀ b, r.lockstep = some b → b.toNat ≤ 1
  | 8 => ∀ h, r.n2 = some h → h.toNat ≤ 50000
  | 9 => ∀ h, r.o2 = some h → h.toNat ≤ 30000
  | 10 => ∀ h, r.h2 = some h → h.toNat ≤ 20000
  | 11 => ∀ h, r.aux = some h → h.toNat ≤ 5000
  | 12 => ∀ m, r.move = some m → m.1.toNat ≤ 24000
  | 13 => ∀ m, r.move = some m → 10 ≤ m.2.toNat ∧ m.2.toNat ≤ 600
  | 14 => ∀ b, r.bank = some b → b.toNat ≤ 7
  | 15 => ∀ b, r.mask = some b → b.toNat ≤ 6
  | _ => True

/-- The checks of a field pass exactly if the field lies in its range (R32, R37). -/
theorem fieldPasses_iff (zones : Nat) (r : RawStep) (k : Nat) :
    fieldPasses zones r k ↔ fieldInRange zones r k := by
  simp only [fieldPasses, stepChecks, List.forall_mem_cons, optOk_iff, within_iff, yesNo_isSome_iff,
    endCond_check_iff, duration_check_iff, Bool.or_eq_true, List.all_eq_true, decide_eq_true_eq]
  by_cases hk : k ≤ 15
  · interval_cases k <;> simp [fieldInRange, targetsSized]
  · have hall : fieldInRange zones r k := by
      unfold fieldInRange
      split <;> trivial
    have hother : ∀ m ≤ 15, m ≠ k := by omega
    exact iff_of_true (by simp [hother]) hall

/-- No check fails exactly if every field lies in its range. -/
theorem find?_eq_none_iff_inRange (zones : Nat) (r : RawStep) :
    ((stepChecks zones r).find? fun k => !k.2.2) = none ↔ ∀ k, fieldInRange zones r k := by
  simp only [← fieldPasses_iff, fieldPasses, List.find?_eq_none, Bool.not_eq_true, Bool.not_eq_false']
  exact ⟨fun h _ c hc _ => h c hc, fun h c hc => h _ c hc rfl⟩

/-- Settles O33: a record passes exactly if each field of the table of R32 lies in its range. -/
theorem stepRecordPassesExactlyInRange : Obligations.StepRecordPassesExactlyInRange := by
  unfold Obligations.StepRecordPassesExactlyInRange
  intro zones r
  rw [find?_eq_none_iff_inRange]
  constructor
  · intro h
    have htargets := h 3
    have htravel := h 12
    have hspeed := h 13
    exact ⟨h 1, h 2, fun ts hts => ⟨htargets.1 ts hts, htargets.2 ts hts⟩, h 4, h 5, h 7, h 8, h 9, h 10, h 11,
      fun m hm => ⟨htravel m hm, hspeed m hm⟩, h 14, h 15⟩
  · rintro ⟨hcond, hduration, htargets, hrate, hband, hlockstep, hn2, ho2, hh2, haux, hmove, hbank, hmask⟩ k
    have hsized : targetsSized zones r := fun ts hts => (htargets ts hts).1
    have htemps := fun ts hts => (htargets ts hts).2
    have htravel := fun m hm => (hmove m hm).1
    have hspeed := fun m hm => (hmove m hm).2
    unfold fieldInRange
    split
    exacts [hcond, hduration, ⟨hsized, htemps⟩, hrate, hband, hlockstep, hn2, ho2, hh2, haux, htravel, hspeed, hbank,
      hmask, trivial]

/-! ### The first check that fails -/

/-- In a list in ascending order of field numbers, the first failing check is of the first field that fails. -/
theorem find?_first_failing_field {l : List (Reason × Nat × Bool)} {n : Nat}
    (hsorted : l.Pairwise fun a b => a.2.1 ≤ b.2.1) (hbelow : ∀ c ∈ l, c.2.1 < n → c.2.2 = true)
    (hn : ¬ ∀ c ∈ l, c.2.1 = n → c.2.2 = true) :
    ∃ c ∈ l, (l.find? fun k => !k.2.2) = some c ∧ c.2.1 = n ∧ c.2.2 = false := by
  push Not at hn
  obtain ⟨d, hd, hdn, hdfails⟩ := hn
  induction l with
  | nil => simp at hd
  | cons a l ih =>
    rw [List.pairwise_cons] at hsorted
    by_cases ha : a.2.2 = true
    · have hne : a ≠ d := fun e => hdfails (e ▸ ha)
      obtain ⟨c, hc, hfind, hcn, hcf⟩ := ih hsorted.2 (fun c hc => hbelow c (List.mem_cons_of_mem _ hc))
        ((List.mem_cons.1 hd).resolve_left hne.symm)
      exact ⟨c, List.mem_cons_of_mem _ hc, by simp [ha, hfind], hcn, hcf⟩
    · have hle : n ≤ a.2.1 := by
        by_contra hlt
        exact ha (hbelow a List.mem_cons_self (by omega))
      have hge : a.2.1 ≤ n := by
        rcases List.mem_cons.1 hd with rfl | hmem
        · exact hdn.le
        · exact hdn ▸ hsorted.1 d hmem
      exact ⟨a, List.mem_cons_self, by simp [ha], by omega, by simpa using ha⟩

theorem stepChecks_sorted (zones : Nat) (r : RawStep) :
    (stepChecks zones r).Pairwise fun a b => a.2.1 ≤ b.2.1 := by
  simp [stepChecks]

/-- Only the length of the target list is refused with MISMATCH (R37). -/
theorem reason_of_mem_stepChecks {zones : Nat} {r : RawStep} {c : Reason × Nat × Bool}
    (hc : c ∈ stepChecks zones r) (hfails : c.2.2 = false) (h : c.2.1 ≠ 3 ∨ targetsSized zones r) :
    c.1 = .badField := by
  have hreasons : ∀ c ∈ stepChecks zones r, c.1 = .badField ∨
      c = (.mismatch, 3, optOk r.targets fun l => decide (l.length = zones)) := by simp [stepChecks]
  rcases hreasons c hc with hbad | rfl
  · exact hbad
  · have hmissized : ¬ targetsSized zones r := by
      simpa [← Bool.not_eq_true, optOk_iff, targetsSized] using hfails
    exact absurd rfl (h.resolve_right hmissized)

/-- The first field out of its range gives the refusal, BAD_FIELD but for the length of the targets (R37). -/
theorem find?_of_first_out_of_range {zones : Nat} {r : RawStep} {n : Nat}
    (hbelow : ∀ k < n, fieldInRange zones r k) (hn : ¬ fieldInRange zones r n)
    (h : n ≠ 3 ∨ targetsSized zones r) :
    ∃ k, ((stepChecks zones r).find? fun k => !k.2.2) = some k ∧ k.1 = .badField ∧ k.2.1 = n := by
  simp only [← fieldPasses_iff] at hbelow hn
  obtain ⟨c, hc, hfind, hcn, hfails⟩ := find?_first_failing_field (stepChecks_sorted zones r)
    (fun c hc hlt => hbelow _ hlt c hc rfl) hn
  exact ⟨c, hfind, reason_of_mem_stepChecks hc hfails (hcn ▸ h), hcn⟩

/-- A target list of another length than the zone count gives MISMATCH where fields 1 and 2 are in range (R37). -/
theorem find?_of_targets_missized {zones : Nat} {r : RawStep} (hbelow : ∀ k < 3, fieldInRange zones r k)
    (h : ¬ targetsSized zones r) :
    ∃ k, ((stepChecks zones r).find? fun k => !k.2.2) = some k ∧ k.1 = .mismatch ∧ k.2.1 = 3 := by
  have hcond := (endCond_check_iff r.endCond).2 (hbelow 1 (by omega))
  have hdur := (duration_check_iff r.duration).2 (hbelow 2 (by omega))
  have hsize : optOk r.targets (fun l => decide (l.length = zones)) = false := by
    rw [← Bool.not_eq_true, optOk_iff]
    simpa [targetsSized] using h
  refine ⟨(.mismatch, 3, false), ?_, rfl, rfl⟩
  simp only [stepChecks, List.find?_cons, hcond, hdur, hsize, Bool.not_true, Bool.not_false]

/-! ### The step a record stands for -/

theorem endCond_ofCode_eq {b : Byte} (hb : b.toNat ≤ 4) : (EndCond.ofCode b.toNat).getD .time =
    if b = 1 then .temp else if b = 2 then .boat else if b = 3 then .gas else if b = 4 then .all else .time := by
  have hcodes : b = 0 ∨ b = 1 ∨ b = 2 ∨ b = 3 ∨ b = 4 := by bv_omega
  rcases hcodes with rfl | rfl | rfl | rfl | rfl <;> rfl

theorem yesNo_getD (b : Byte) : (yesNo b).getD false = decide (b = 1) := by
  by_cases h0 : b = 0
  · subst h0; rfl
  by_cases h1 : b = 1
  · subst h1; rfl
  have hlarge : ¬ b.toNat ≤ 1 := by bv_omega
  have hnone : yesNo b = none := by simpa using mt (yesNo_isSome_iff b).1 hlarge
  rw [hnone]
  exact (decide_eq_false h1).symm

theorem bankOf_eq {b : Byte} (hb : b.toNat ≤ 7) : bankOf b.toNat = some (Fin.ofNat 8 b.toNat) := by
  have hlt : b.toNat < 8 := by omega
  simp [bankOf, hlt, Fin.ofNat, Nat.mod_eq_of_lt hlt]

/-- A record that passes is stored field by field: the end condition by its code, lockstep on exactly for the byte 1,
the bank by its number, every other field as received (R38). -/
theorem stepOf_eq {zones : Nat} {r : RawStep} (h : ((stepChecks zones r).find? fun k => !k.2.2) = none) :
    stepOf r =
      { endCond := if r.endCond = some 1 then .temp else if r.endCond = some 2 then .boat
          else if r.endCond = some 3 then .gas else if r.endCond = some 4 then .all else .time
        duration := (r.duration.map BitVec.toNat).getD 0
        targets := r.targets.map fun l => l.map BitVec.toNat
        rate := r.rate.map BitVec.toNat, band := r.band.map BitVec.toNat
        holdback := r.holdback.map BitVec.toNat, lockstep := r.lockstep.map fun y => y = 1
        flows := { n2 := r.n2.map BitVec.toNat, o2 := r.o2.map BitVec.toNat, h2 := r.h2.map BitVec.toNat,
                   aux := r.aux.map BitVec.toNat }
        move := r.move.map fun m => (m.1.toNat, m.2.toNat)
        bank := r.bank.map fun y => Fin.ofNat 8 y.toNat
        mask := r.mask.map BitVec.toNat } := by
  rw [find?_eq_none_iff_inRange] at h
  obtain ⟨b, hb, hcode⟩ : ∃ b, r.endCond = some b ∧ b.toNat ≤ 4 := h 1
  have hbank : (r.bank.bind fun b => bankOf b.toNat) = r.bank.map fun y => Fin.ofNat 8 y.toNat := by
    cases hr : r.bank with
    | none => rfl
    | some y => exact bankOf_eq (h 14 y hr)
  simp [stepOf, hb, endCond_ofCode_eq hcode, hbank, yesNo_getD]

end Sys2Proof.RecipeRecords

/-! SUPPORT. What each request of the recipe store answers, case by case, and the statements about them (R34 to R43). -/

namespace Sys2Proof.RecipeStore

open Sys2Proof.Machine Sys2Proof.RecipeRequests Sys2Proof.RecipeRecords

/-! ### Each request as a command -/

section

variable {s s' : State} {a : Answer} {tag : Byte}

theorem exec_recipeOpen {name : List Byte} {x o r z m k : Byte} (h : s.canTake = true) (hn : name.length < 256)
    (hs : s.recipeOpen x name o r z m k = (s', a)) :
    exec (.recipeOpen tag x name o r z m k) s = .next (s'.replied (.recipeOpen x name o r z m k) tag a) :=
  host_of_serve h (decode_recipeOpen hn x o r z m k) hs

theorem exec_recipeStep {l x : Byte} {r : RawStep} (h : s.canTake = true)
    (hw : wellFormed (.recipeStep tag l x r) = true) (hs : s.recipeStep l x r = (s', a)) :
    exec (.recipeStep tag l x r) s = .next (s'.replied (.recipeStep l x r) tag a) :=
  host_of_serve h (decode_recipeStep (targets_length_of_wellFormed hw) l x) hs

theorem exec_recipeClose (h : s.canTake = true) (hs : s.recipeClose = (s', a)) :
    exec (.recipeClose tag) s = .next (s'.replied .recipeClose tag a) :=
  host_of_serve h decode_recipeClose hs

theorem exec_recipeCancel (h : s.canTake = true) (hs : s.recipeCancel = (s', a)) :
    exec (.recipeCancel tag) s = .next (s'.replied .recipeCancel tag a) :=
  host_of_serve h decode_recipeCancel hs

theorem exec_recipeDrop {x : Byte} (h : s.canTake = true) (hs : s.recipeDrop x = (s', a)) :
    exec (.recipeDrop tag x) s = .next (s'.replied (.recipeDrop x) tag a) :=
  host_of_serve h (decode_recipeDrop x) hs

theorem exec_recipeDropOwner {o : Byte} (h : s.canTake = true) (hs : s.recipeDropOwner o = (s', a)) :
    exec (.recipeDropOwner tag o) s = .next (s'.replied (.recipeDropOwner o) tag a) :=
  host_of_serve h (decode_recipeDropOwner o) hs

end

/-! ### RECIPE_OPEN (R34, R35) -/

theorem slotField_eq_none {x : Byte} (h : x.toNat = 0 ∨ 16 < x.toNat) : slotField x = none := by
  have hout : ¬ (1 ≤ x.toNat ∧ x.toNat ≤ 16) := by omega
  simp [slotField, hout]

theorem yesNo_bit (b : Bool) : yesNo (if b then 1 else 0) = some b := by
  cases b <;> rfl

theorem nameOk_iff (name : List Byte) :
    nameOk name = true ↔
      (1 ≤ name.length ∧ name.length ≤ 16) ∧ ∀ c ∈ name, 0x20 ≤ c.toNat ∧ c.toNat ≤ 0x7E := by
  simp [nameOk, within]

/-- A slot number outside 1 to 16 is refused before any other check. -/
theorem recipeOpen_of_bad_slot (s : State) {x : Byte} (hx : slotField x = none) (name : List Byte)
    (o r z m k : Byte) : s.recipeOpen x name o r z m k = (s, .no .badField 1) := by
  simp [State.recipeOpen, hx, firstFail]

/-- With every field in range the checks of the store follow in their order, and then the load is opened. -/
theorem recipeOpen_of_inRange (s : State) {x r z m k : Byte} {name : List Byte} {i : Fin 16} {b : Bool}
    (hx : slotField x = some i) (hname : nameOk name = true) (hr : yesNo r = some b)
    (hz : within 3 5 z.toNat = true) (hm : within 1 48 m.toNat = true) (hk : within 0 8 k.toNat = true) (o : Byte) :
    s.recipeOpen x name o r z m k =
      if s.store.load.isSome then (s, .no .loadOpen 0)
      else if (s.store.recipe? i).isSome then (s, .no .occupied 0)
      else if 384 - s.store.reserved < m.toNat + k.toNat then (s, .no .storeFull 0)
      else
        ({ s with store :=
            { s.store.setSlot i (some
                { closed := false, name := name, owner := o.toNat, resident := b, zoneCount := z.toNat,
                  mainCount := m.toNat, tailCount := k.toNat, main := [], tail := [], inUse := 0 }) with
              reserved := s.store.reserved + (m.toNat + k.toNat)
              load := some { slot := i, mainCount := m.toNat, tailCount := k.toNat, next := .step .main 1,
                             storedMain := 0, storedTail := 0 } } },
          .one (u8 (i.val + 1) ++ u8 (m.toNat + k.toNat) ++
            u16 (384 - (s.store.reserved + (m.toNat + k.toNat))))) := by
  simp only [State.recipeOpen, firstFail, hx, hname, hr, hz, hm, hk, Option.isSome_some, Bool.not_true,
    List.find?_cons, List.find?_nil, Option.map_none, Option.getD_some]
  rfl

/-- Settles O32: the checks of RECIPE_OPEN in their order, and the load it opens. -/
theorem recipeOpenReservesTheDeclaredRecords : Obligations.RecipeOpenReservesTheDeclaredRecords := by
  unfold Obligations.RecipeOpenReservesTheDeclaredRecords
  refine ⟨?_, ?_⟩
  · intro s tag x owner res zones main tail name i b h hx hmin hmax hchars hres hz3 hz5 hm1 hm48 hk8 req total
    subst hres
    have hname : nameOk name = true := (nameOk_iff name).2 ⟨⟨hmin, hmax⟩, hchars⟩
    have hserve := recipeOpen_of_inRange s hx hname (yesNo_bit b) ((within_iff ..).2 ⟨hz3, hz5⟩)
      ((within_iff ..).2 ⟨hm1, hm48⟩) ((within_iff ..).2 ⟨Nat.zero_le _, hk8⟩) owner
    have hshort : name.length < 256 := by omega
    refine ⟨fun hload => ?_, fun hload hslot => ?_, fun hload hslot hfull => ?_, fun hload hslot hroom => ?_⟩
    · exact exec_recipeOpen h hshort (hserve.trans (if_pos (Option.isSome_iff_ne_none.2 hload)))
    · exact exec_recipeOpen h hshort (by
        rw [hserve, hload, if_neg (by simp), if_pos (Option.isSome_iff_ne_none.2 hslot)])
    · exact exec_recipeOpen h hshort (by
        rw [hserve, hload, hslot, if_neg (by simp), if_neg (by simp), if_pos hfull])
    · exact exec_recipeOpen h hshort (by
        rw [hserve, hload, hslot, if_neg (by simp), if_neg (by simp), if_neg (Nat.not_lt.2 hroom)])
  · intro s tag x owner res zones main tail name h hw hx
    exact exec_recipeOpen h (name_length_of_wellFormed hw)
      (recipeOpen_of_bad_slot s (slotField_eq_none hx) name owner res zones main tail)

/-! ### RECIPE_STEP (R36 to R38) -/

theorem recipeStep_of_no_load {s : State} (hload : s.store.load = none) (l x : Byte) (r : RawStep) :
    s.recipeStep l x r = (s, .no .wrongState 0) := by
  simp [State.recipeStep, hload]

/-- A position that is not the expected one, or no position of a list, is refused (R36, log entry 25). -/
theorem recipeStep_of_other_position {s : State} {c : LoadCtx} (hload : s.store.load = some c) {l x : Byte}
    (hpos : ∀ ls, ListSel.ofCode l.toNat = some ls → c.next ≠ .step ls x.toNat) (r : RawStep) :
    s.recipeStep l x r = (s, .no .badSequence 0) := by
  unfold State.recipeStep
  rw [hload]
  dsimp only
  split
  next ls _ hls _ => exact if_neg (hpos ls hls)
  next => rfl

/-- At the expected position the first failing check of the record refuses it (R37). -/
theorem recipeStep_of_bad_record {s : State} {c : LoadCtx} {rc : Recipe} {l x : Byte} {ls : ListSel}
    {r : RawStep} {k : Reason × Nat × Bool} (hload : s.store.load = some c) (hslot : s.store.recipe? c.slot = some rc)
    (hls : ListSel.ofCode l.toNat = some ls) (hpos : c.next = .step ls x.toNat)
    (hfind : ((stepChecks rc.zoneCount r).find? fun k => !k.2.2) = some k) :
    s.recipeStep l x r = (s, .no k.1 k.2.1) := by
  simp [State.recipeStep, hload, hslot, hls, hpos, hfind]

/-- The load context after a step has been stored (R38). -/
def advanced (c : LoadCtx) (ls : ListSel) (i : Nat) : LoadCtx :=
  { c with
    next := c.advance ls i
    storedMain := if ls = .main then c.storedMain + 1 else c.storedMain
    storedTail := if ls = .tail then c.storedTail + 1 else c.storedTail }

/-- At the expected position a record that passes is stored (R38). -/
theorem recipeStep_of_stored {s : State} {c : LoadCtx} {rc : Recipe} {l x : Byte} {ls : ListSel}
    {r : RawStep} (hload : s.store.load = some c) (hslot : s.store.recipe? c.slot = some rc)
    (hls : ListSel.ofCode l.toNat = some ls) (hpos : c.next = .step ls x.toNat)
    (hfind : ((stepChecks rc.zoneCount r).find? fun k => !k.2.2) = none) :
    s.recipeStep l x r =
      (s.setStore { s.store.setSlot c.slot (some (rc.append ls (stepOf r))) with load := some (advanced c ls x.toNat) },
        .one (u8 ls.code ++ u8 x.toNat ++ positionBytes (c.advance ls x.toNat))) := by
  simp only [State.recipeStep, hload, hslot, hls, hpos, hfind, if_pos]
  rfl

@[simp] theorem recipe?_with_load (st : Store) (c : Option LoadCtx) (i : Fin 16) :
    ({ st with load := c } : Store).recipe? i = st.recipe? i := rfl

@[simp] theorem recipe?_with_reserved (st : Store) (n : Nat) (i : Fin 16) :
    ({ st with reserved := n } : Store).recipe? i = st.recipe? i := rfl

@[simp] theorem replied_store (s : State) (r : Request) (tag : Byte) (a : Answer) :
    (s.replied r tag a).store = s.store := rfl

/-- A reply writes the link and nothing else, and the store written before it stands. -/
theorem replied_setStore_frame (s : State) (st : Store) (r : Request) (tag : Byte) (a : Answer) :
    (s.setStore st).replied r tag a =
      { s with store := ((s.setStore st).replied r tag a).store, link := ((s.setStore st).replied r tag a).link } :=
  rfl

/-- Settles O34: RECIPE_STEP is judged in its order, and what is stored. -/
theorem recipeStepIsStoredInOrder : Obligations.RecipeStepIsStoredInOrder := by
  unfold Obligations.RecipeStepIsStoredInOrder
  refine ⟨?_, ?_⟩
  · intro s tag l x r h hw
    refine ⟨fun hload => exec_recipeStep h hw (recipeStep_of_no_load hload l x r), fun c rc hload hslot =>
      ⟨fun hpos => exec_recipeStep h hw (recipeStep_of_other_position hload hpos r), fun ls hls hpos =>
        ⟨fun k hfind => exec_recipeStep h hw (recipeStep_of_bad_record hload hslot hls hpos hfind), fun hfind => ?_⟩⟩⟩
    intro stored
    have hstored : stepOf r = stored := stepOf_eq hfind
    refine ⟨_, advanced c ls x.toNat, exec_recipeStep h hw (recipeStep_of_stored hload hslot hls hpos hfind),
      replied_setStore_frame .., ?_, rfl, ?_, rfl, rfl, ?_, ?_, ?_⟩
    · cases ls <;> simp [hstored, Recipe.append]
    · intro j hj
      simp [Store.recipe?_setSlot_other _ hj]
    · cases ls <;> rfl
    · cases ls <;> rfl
    · cases ls <;> rfl
  · intro s tag l x r c rc ls n h hw hload hslot hls hpos sized inRange refused hbelow hn
    have hbelow' : ∀ k < n, fieldInRange rc.zoneCount r k := hbelow
    have hn' : ¬ fieldInRange rc.zoneCount r n := hn
    have hrefused {reason : Reason}
        (hfind : ∃ k, ((stepChecks rc.zoneCount r).find? fun k => !k.2.2) = some k ∧ k.1 = reason ∧ k.2.1 = n) :
        refused reason := by
      obtain ⟨k, hk, rfl, rfl⟩ := hfind
      exact exec_recipeStep h hw (recipeStep_of_bad_record hload hslot hls hpos hk)
    refine ⟨fun h3 hmissized => ?_, fun hother => ?_⟩
    · subst h3
      exact hrefused (find?_of_targets_missized hbelow' hmissized)
    · exact hrefused (find?_of_first_out_of_range hbelow' hn' hother)

/-! ### The end of a load (R39, R40) -/

theorem discard_of_some {st : Store} {i : Fin 16} {r : Recipe} (h : st.recipe? i = some r) :
    st.discard i = { st.setSlot i none with reserved := st.reserved - (r.mainCount + r.tailCount) } := by
  simp [Store.discard, h, Recipe.records]

theorem recipeClose_of_no_load {s : State} (hload : s.store.load = none) :
    s.recipeClose = (s, .no .wrongState 0) := by
  simp [State.recipeClose, hload]

theorem recipeClose_of_incomplete {s : State} {c : LoadCtx} (hload : s.store.load = some c)
    (hnext : c.next ≠ .complete) : s.recipeClose = (s, .no .incomplete 0) := by
  simp [State.recipeClose, hload, hnext]

theorem recipeClose_of_complete {s : State} {c : LoadCtx} {r : Recipe} (hload : s.store.load = some c)
    (hslot : s.store.recipe? c.slot = some r) (hnext : c.next = .complete) :
    s.recipeClose =
      (s.setStore { s.store.setSlot c.slot (some { r with closed := true, inUse := 0 }) with load := none },
        .one (u8 (c.slot.val + 1) ++ u8 r.mainCount ++ u8 r.tailCount ++ u16 (384 - s.store.reserved))) := by
  simp [State.recipeClose, hload, hslot, hnext, Store.free]

theorem recipeCancel_of_no_load {s : State} (hload : s.store.load = none) :
    s.recipeCancel = (s, .no .wrongState 0) := by
  simp [State.recipeCancel, hload]

theorem recipeCancel_of_load {s : State} {c : LoadCtx} {r : Recipe} (hload : s.store.load = some c)
    (hslot : s.store.recipe? c.slot = some r) :
    s.recipeCancel =
      (s.setStore { s.store.setSlot c.slot none with
          reserved := s.store.reserved - (r.mainCount + r.tailCount), load := none },
        .one (u8 (c.slot.val + 1) ++ u16 (384 - (s.store.reserved - (r.mainCount + r.tailCount))))) := by
  simp [State.recipeCancel, hload, discard_of_some hslot, Store.free]

/-! ### RECIPE_DROP (R42) -/

theorem recipeDrop_of_bad_slot (s : State) {x : Byte} (hx : slotField x = none) :
    s.recipeDrop x = (s, .no .badField 1) := by
  simp [State.recipeDrop, hx]

theorem recipeDrop_of_empty {s : State} {x : Byte} {i : Fin 16} (hx : slotField x = some i)
    (hslot : s.store.recipe? i = none) : s.recipeDrop x = (s, .no .noSuchRecipe 0) := by
  simp [State.recipeDrop, hx, hslot]

/-- A held recipe is dropped only while CLOSED and not in use. -/
theorem recipeDrop_of_recipe {s : State} {x : Byte} {i : Fin 16} {r : Recipe} (hx : slotField x = some i)
    (hslot : s.store.recipe? i = some r) :
    s.recipeDrop x =
      if r.closed = false then (s, .no .loadOpen 0)
      else if r.inUse ≠ 0 then (s, .no .inUse 0)
      else
        (s.setStore { s.store.setSlot i none with reserved := s.store.reserved - (r.mainCount + r.tailCount) },
          .one (u8 (i.val + 1) ++ u8 (r.mainCount + r.tailCount) ++
            u16 (384 - (s.store.reserved - (r.mainCount + r.tailCount))))) := by
  simp only [State.recipeDrop, hx, hslot, discard_of_some hslot]
  rfl

/-! ### RECIPE_DROP_OWNER (R43) -/

/-- Whether RECIPE_DROP_OWNER of a tag keeps a recipe. -/
def keptBy (owner : Nat) (r : Recipe) : Bool :=
  !decide ((r.closed ∧ r.owner = owner) ∧ r.resident = false ∧ r.inUse = 0)

/-- A visit leaves the store as it is, or discards the slot whose recipe is not kept. -/
theorem visit_store (d : DropCount) (owner : Nat) (i : Fin 16) :
    (d.visit owner i).store = if (d.store.recipe? i).all (keptBy owner) then d.store else d.store.discard i := by
  unfold DropCount.visit
  cases h : d.store.recipe? i with
  | none => simp
  | some r =>
    dsimp only
    by_cases howned : r.closed ∧ r.owner = owner
    · rw [if_pos howned]
      by_cases hidle : r.resident = false ∧ r.inUse = 0
      · have hkept : keptBy owner r = false := by simp [keptBy, howned, hidle]
        simp [if_pos hidle, hkept]
      · have hkept : keptBy owner r = true := by simp only [keptBy, hidle, and_false, decide_false, Bool.not_false]
        simp [if_neg hidle, hkept]
    · have hkept : keptBy owner r = true := by simp only [keptBy, howned, false_and, decide_false, Bool.not_false]
      simp [if_neg howned, hkept]

theorem discard_recipe? (st : Store) (i j : Fin 16) :
    (st.discard i).recipe? j = if j = i then none else st.recipe? j := by
  cases h : st.recipe? i with
  | none => by_cases hj : j = i <;> simp [Store.discard, h, hj]
  | some r =>
    rw [discard_of_some h, recipe?_with_reserved]
    by_cases hj : j = i
    · simp [hj]
    · simp [hj, Store.recipe?_setSlot_other _ hj]

theorem discard_load (st : Store) (i : Fin 16) : (st.discard i).load = st.load := by
  unfold Store.discard
  split <;> rfl

/-- A visit writes the slot visited only, and empties it unless its recipe is kept. -/
theorem visit_recipe? (d : DropCount) (owner : Nat) (i j : Fin 16) :
    (d.visit owner i).store.recipe? j =
      if j = i then (d.store.recipe? j).filter (keptBy owner) else d.store.recipe? j := by
  rw [visit_store]
  by_cases hj : j = i
  · subst hj
    cases h : d.store.recipe? j with
    | none => simp [h]
    | some r => cases hkept : keptBy owner r <;> simp [Option.filter, h, hkept, discard_recipe?]
  · by_cases hkept : (d.store.recipe? i).all (keptBy owner) = true <;> simp [hj, hkept, discard_recipe?]

theorem visit_load (d : DropCount) (owner : Nat) (i : Fin 16) : (d.visit owner i).store.load = d.store.load := by
  rw [visit_store]
  split
  · rfl
  · exact discard_load ..

/-- After visits to a list of slots, each slot of the list is empty unless its recipe is kept; no other has changed. -/
theorem foldl_visit_recipe? (owner : Nat) (l : List (Fin 16)) (d : DropCount) (j : Fin 16) :
    (l.foldl (fun (d : DropCount) i => d.visit owner i) d).store.recipe? j =
      if j ∈ l then (d.store.recipe? j).filter (keptBy owner) else d.store.recipe? j := by
  induction l generalizing d with
  | nil => simp
  | cons i l ih =>
    rw [List.foldl_cons, ih, visit_recipe?]
    by_cases hi : j = i <;> by_cases hl : j ∈ l <;> simp [hi, hl]

theorem foldl_visit_load (owner : Nat) (l : List (Fin 16)) (d : DropCount) :
    (l.foldl (fun (d : DropCount) i => d.visit owner i) d).store.load = d.store.load := by
  induction l generalizing d with
  | nil => rfl
  | cons i l ih => rw [List.foldl_cons, ih, visit_load]

/-- RECIPE_DROP_OWNER visits all sixteen slots. -/
theorem recipeDropOwner_store (s : State) (owner : Byte) : ∃ st a, s.recipeDropOwner owner = (s.setStore st, a) ∧
    st.load = s.store.load ∧ ∀ i, st.recipe? i = (s.store.recipe? i).filter (keptBy owner.toNat) := by
  refine ⟨_, _, rfl, foldl_visit_load .., fun i => ?_⟩
  rw [foldl_visit_recipe?, if_pos (List.mem_finRange i)]

/-- Settles O35: how a load ends, and what the two drops empty. -/
theorem loadsEndAndIdleRecipesDrop : Obligations.LoadsEndAndIdleRecipesDrop := by
  unfold Obligations.LoadsEndAndIdleRecipesDrop
  refine ⟨fun s tag h => ⟨fun hload => ?_, fun c r hload hslot => ?_, fun x i hx => ?_, fun owner => ?_⟩,
    fun s tag x h hx => exec_recipeDrop h (recipeDrop_of_bad_slot s (slotField_eq_none hx))⟩
  · exact ⟨exec_recipeClose h (recipeClose_of_no_load hload), exec_recipeCancel h (recipeCancel_of_no_load hload)⟩
  · exact ⟨fun hnext => exec_recipeClose h (recipeClose_of_incomplete hload hnext),
      fun hnext => exec_recipeClose h (recipeClose_of_complete hload hslot hnext),
      exec_recipeCancel h (recipeCancel_of_load hload hslot)⟩
  · refine ⟨fun hslot => exec_recipeDrop h (recipeDrop_of_empty hx hslot), fun r hslot => ?_⟩
    have hserve := recipeDrop_of_recipe hx hslot
    refine ⟨fun hopen => ?_, fun hclosed huse => ?_, fun hclosed huse => ?_⟩
    · exact exec_recipeDrop h (hserve.trans (if_pos hopen))
    · exact exec_recipeDrop h (by rw [hserve, if_neg (by simp [hclosed]), if_pos huse])
    · exact exec_recipeDrop h (by rw [hserve, if_neg (by simp [hclosed]), if_neg (not_not.2 huse)]; rfl)
  · obtain ⟨st, a, hserve, hload, hslots⟩ := recipeDropOwner_store s owner
    refine ⟨_, exec_recipeDropOwner h hserve, replied_setStore_frame .., hload, ?_, ?_, ?_⟩
    · intro i r hi hclosed howner hresident huse
      simp [hslots, hi, keptBy, hclosed, howner, hresident, huse]
    · intro i r hi hkept
      have : keptBy owner.toNat r = true := by
        simp only [keptBy]
        rcases hkept with h | h | h | h <;> simp [h]
      simp [hslots, hi, this]
    · intro i hi
      simp [hslots, hi]

end Sys2Proof.RecipeStore

/-! SUPPORT. The zones of a tube and the operations that write them: what each leaves in a zone's thermal record and in its
allocator record, and what it leaves alone (R48, R52, R56, R61 to R63, R68, R81). -/

namespace Sys2Proof.ZoneRules

open Sys2Proof.Machine

/-! ### The active zones and what is done to each of them -/

theorem mem_activeZones {n : Nat} {z : Zone} : z ∈ activeZones n ↔ z.number ≤ n := by
  match n with
  | 0 | 1 | 2 | 3 | 4 | 5 => cases z <;> decide
  | n + 6 => cases z <;> simp [activeZones, Zone.list, Zone.number]

theorem nodup_activeZones (n : Nat) : (activeZones n).Nodup := by
  have hall : Zone.list.Nodup := by decide
  exact hall.sublist (List.take_sublist n Zone.list)

/-- A fold whose step at an index writes that index alone writes each listed index once. `I` is what the steps keep of
the rest of the state. -/
theorem foldl_at {σ ι α : Type} [DecidableEq ι] {I : σ → Prop} {get : σ → ι → α} {f : σ → ι → σ} {h : ι → α → α}
    (hI : ∀ s i, I s → I (f s i)) (hsame : ∀ s i, I s → get (f s i) i = h i (get s i))
    (hother : ∀ s i j, I s → j ≠ i → get (f s i) j = get s j) {l : List ι} (hl : l.Nodup) :
    ∀ s, I s → I (l.foldl f s) ∧ ∀ j, get (l.foldl f s) j = if j ∈ l then h j (get s j) else get s j := by
  induction l with
  | nil => intro s hs; exact ⟨hs, fun j => by simp⟩
  | cons i l ih =>
    obtain ⟨hi, hl⟩ := List.nodup_cons.1 hl
    intro s hs
    obtain ⟨hkept, hget⟩ := ih hl (f s i) (hI s i hs)
    refine ⟨hkept, fun j => ?_⟩
    by_cases hj : j = i
    · subst hj
      simp [hget, hi, hsame s j hs]
    · simp [hget, hj, hother s i j hs hj]

/-! ### Writing one zone -/

/-- A zone as the thermal block and the allocator hold it. -/
def heater (s : State) (t : Tube) (z : Zone) : ZoneRec × AllocZone :=
  ((s.thermal.get t).zones.get z, s.alloc.zone t z)

theorem alloc_setZone_same (a : Alloc) (t : Tube) (z : Zone) (v : AllocZone) : (a.setZone t z v).zone t z = v := by
  simp [Alloc.zone, Alloc.setZone]

theorem alloc_setZone_other (a : Alloc) {t u : Tube} {z y : Zone} (h : ¬ (u = t ∧ y = z)) (v : AllocZone) :
    (a.setZone t z v).zone u y = a.zone u y := by
  by_cases hu : u = t
  · subst hu
    simp [Alloc.zone, Alloc.setZone, PerZone.get_set_other _ (fun hy => h ⟨rfl, hy⟩)]
  · simp [Alloc.zone, Alloc.setZone, PerTube.get_set_other _ hu]

theorem lowerFiring_zone_same (a : Alloc) (t : Tube) (z : Zone) (d : Nat) :
    (a.lowerFiring t z d).zone t z = { a.zone t z with firing := min (a.zone t z).firing d } := by
  unfold Alloc.lowerFiring
  split
  · rw [alloc_setZone_same, Nat.min_eq_right (Nat.le_of_lt ‹_›)]
  · have hmin : min (a.zone t z).firing d = (a.zone t z).firing := by omega
    rw [hmin]

theorem lowerFiring_zone_other (a : Alloc) {t u : Tube} {z y : Zone} (h : ¬ (u = t ∧ y = z)) (d : Nat) :
    (a.lowerFiring t z d).zone u y = a.zone u y := by
  unfold Alloc.lowerFiring
  split
  · exact alloc_setZone_other a h _
  · rfl

/-- `n` is `s` but for zone records, in the thermal blocks and in the allocator. -/
structure ZonesWritten (s n : State) : Prop where
  rest : n = { s with thermal := n.thermal, alloc := { s.alloc with zones := n.alloc.zones } }
  blocks : ∀ u, n.thermal.get u = { s.thermal.get u with zones := (n.thermal.get u).zones }

namespace ZonesWritten

variable {s n m : State}

theorem refl (s : State) : ZonesWritten s s := ⟨rfl, fun _ => rfl⟩

theorem trans (h : ZonesWritten s n) (g : ZonesWritten n m) : ZonesWritten s m where
  rest := by rw [g.rest, h.rest]
  blocks u := by rw [g.blocks u, h.blocks u]

theorem run (h : ZonesWritten s n) : n.run = s.run := by rw [h.rest]
theorem banks (h : ZonesWritten s n) : n.banks = s.banks := by rw [h.rest]
theorem config (h : ZonesWritten s n) : n.config = s.config := by rw [h.rest]

theorem tuning (h : ZonesWritten s n) (u : Tube) (z : Zone) : n.tuning u z = s.tuning u z := by
  simp only [State.tuning, h.run, h.banks]

theorem runState (h : ZonesWritten s n) (u : Tube) : n.runState u = s.runState u := by
  simp only [State.runState, h.run]

theorem tubeConfig (h : ZonesWritten s n) (u : Tube) : n.tubeConfig u = s.tubeConfig u := by
  simp only [State.tubeConfig, h.config]

/-- A block whose zones are as they were is as it was. -/
theorem block_of_zones (h : ZonesWritten s n) {u : Tube} (hz : ∀ z, heater n u z = heater s u z) :
    n.thermal.get u = s.thermal.get u := by
  have hzones : (n.thermal.get u).zones = (s.thermal.get u).zones :=
    PerZone.ext_get fun z => congrArg Prod.fst (hz z)
  rw [h.blocks u, hzones]

end ZonesWritten

/-- `n` is `s` but for the zone records of one tube, in its thermal block and in the allocator. -/
structure ZonesOnly (t : Tube) (s n : State) : Prop extends ZonesWritten s n where
  others : ∀ u, u ≠ t → ∀ z, heater n u z = heater s u z

namespace ZonesOnly

variable {t : Tube} {s n m : State}

theorem refl (t : Tube) (s : State) : ZonesOnly t s s := ⟨.refl s, fun _ _ _ => rfl⟩

theorem trans (h : ZonesOnly t s n) (g : ZonesOnly t n m) : ZonesOnly t s m :=
  ⟨h.toZonesWritten.trans g.toZonesWritten, fun u hu z => (g.others u hu z).trans (h.others u hu z)⟩

/-- A fold of steps that write zone records of the tube alone. -/
theorem foldl {f : State → Zone → State} (hf : ∀ s z, ZonesOnly t s (f s z)) (l : List Zone) (s : State) :
    ZonesOnly t s (l.foldl f s) := by
  induction l generalizing s with
  | nil => exact refl t s
  | cons z l ih => exact (hf s z).trans (ih (f s z))

end ZonesOnly

/-- Writing one zone record of a thermal block. -/
theorem zonesOnly_setZone (s : State) (t : Tube) (z : Zone) (v : ZoneRec) :
    ZonesOnly t s (s.setThermal t ((s.thermal.get t).setZone z v)) where
  rest := rfl
  blocks u := by
    by_cases hu : u = t
    · subst hu; simp [ThermalRec.setZone]
    · simp [PerTube.get_set_other _ hu]
  others u hu z := by simp [heater, PerTube.get_set_other _ hu]

theorem heater_setZone_same (s : State) (t : Tube) (z : Zone) (v : ZoneRec) :
    heater (s.setThermal t ((s.thermal.get t).setZone z v)) t z = (v, s.alloc.zone t z) := by
  simp [heater, ThermalRec.setZone]

theorem heater_setZone_other (s : State) (t : Tube) {z y : Zone} (h : y ≠ z) (v : ZoneRec) :
    heater (s.setThermal t ((s.thermal.get t).setZone z v)) t y = heater s t y := by
  simp [heater, ThermalRec.setZone, PerZone.get_set_other _ h]

/-- Publishing a demand writes the zone's demand and lowers its firing to it (R81). -/
theorem zonesOnly_publishDemand (s : State) (t : Tube) (z : Zone) (d : Nat) :
    ZonesOnly t s (s.publishDemand t z d) where
  rest := by
    simp only [State.publishDemand, State.setThermal, Alloc.lowerFiring]
    split <;> rfl
  blocks := (zonesOnly_setZone s t z _).blocks
  others u hu y := by
    have hzone : ¬ (u = t ∧ y = z) := fun e => hu e.1
    simp [heater, State.publishDemand, PerTube.get_set_other _ hu, lowerFiring_zone_other _ hzone]

theorem heater_publishDemand_same (s : State) (t : Tube) (z : Zone) (d : Nat) : heater (s.publishDemand t z d) t z =
    ({ (heater s t z).1 with demand := d }, { (heater s t z).2 with firing := min (heater s t z).2.firing d }) := by
  simp [heater, State.publishDemand, ThermalRec.setZone, lowerFiring_zone_same]

theorem heater_publishDemand_other (s : State) (t : Tube) {z y : Zone} (h : y ≠ z) (d : Nat) :
    heater (s.publishDemand t z d) t y = heater s t y := by
  have hzone : ¬ (t = t ∧ y = z) := fun e => h e.2
  simp [heater, State.publishDemand, ThermalRec.setZone, lowerFiring_zone_other _ hzone, PerZone.get_set_other _ h]

/-! ### Cutting and limiting the demands of a tube (R63, R68) -/

theorem zonesOnly_cutDemands (s : State) (t : Tube) : ZonesOnly t s (s.cutDemands t) :=
  .foldl (fun s z => zonesOnly_publishDemand s t z 0) _ s

/-- Cutting the demands shuts each active zone. -/
theorem heater_cutDemands (s : State) (t : Tube) (z : Zone) : heater (s.cutDemands t) t z =
    if z.number ≤ (s.tubeConfig t).activeZones then
      ({ (heater s t z).1 with demand := 0 }, { (heater s t z).2 with firing := 0 })
    else heater s t z := by
  have hfold := foldl_at (I := fun _ => True) (get := fun s => heater s t) (f := fun s z => s.publishDemand t z 0)
    (h := fun _ p => ({ p.1 with demand := 0 }, { p.2 with firing := 0 })) (fun _ _ _ => trivial)
    (fun s z _ => by simp [heater_publishDemand_same]) (fun s z y _ hy => heater_publishDemand_other s t hy 0)
    (nodup_activeZones (s.tubeConfig t).activeZones) s trivial
  simpa only [State.cutDemands, mem_activeZones] using hfold.2 z

/-- Lowering one zone's demand to its output limit. -/
def limitZone (t : Tube) (s : State) (z : Zone) : State :=
  if (s.tuning t z).lmax < ((s.thermal.get t).zones.get z).demand then s.publishDemand t z (s.tuning t z).lmax else s

theorem limitDemands_eq (s : State) (t : Tube) :
    s.limitDemands t = (activeZones (s.tubeConfig t).activeZones).foldl (limitZone t) s := rfl

theorem zonesOnly_limitZone (t : Tube) (s : State) (z : Zone) : ZonesOnly t s (limitZone t s z) := by
  unfold limitZone
  split
  · exact zonesOnly_publishDemand ..
  · exact .refl t s

/-- A zone as the lowering to the output limit `m` leaves it. -/
def limited (m : Nat) (p : ZoneRec × AllocZone) : ZoneRec × AllocZone :=
  if m < p.1.demand then ({ p.1 with demand := m }, { p.2 with firing := min p.2.firing m }) else p

theorem limited_fst (m : Nat) (p : ZoneRec × AllocZone) :
    (limited m p).1 = { p.1 with demand := min p.1.demand m } := by
  unfold limited
  split
  next h => rw [Nat.min_eq_right (Nat.le_of_lt h)]
  next h => rw [Nat.min_eq_left (Nat.not_lt.1 h)]

theorem heater_limitZone_same (t : Tube) (s : State) (z : Zone) :
    heater (limitZone t s z) t z = limited (s.tuning t z).lmax (heater s t z) := by
  unfold limitZone limited
  by_cases h : (s.tuning t z).lmax < ((s.thermal.get t).zones.get z).demand
  · rw [if_pos h, heater_publishDemand_same]
    exact (if_pos h).symm
  · rw [if_neg h]
    exact (if_neg h).symm

theorem heater_limitZone_other (t : Tube) (s : State) {z y : Zone} (h : y ≠ z) :
    heater (limitZone t s z) t y = heater s t y := by
  unfold limitZone
  split
  · exact heater_publishDemand_other s t h _
  · rfl

theorem zonesOnly_limitDemands (s : State) (t : Tube) : ZonesOnly t s (s.limitDemands t) :=
  .foldl (zonesOnly_limitZone t) _ s

/-- Limiting the demands of a tube limits each active zone. -/
theorem heater_limitDemands (s : State) (t : Tube) (z : Zone) : heater (s.limitDemands t) t z =
    if z.number ≤ (s.tubeConfig t).activeZones then limited (s.tuning t z).lmax (heater s t z) else heater s t z := by
  have hfold := foldl_at (I := ZonesOnly t s) (get := fun s => heater s t) (f := limitZone t)
    (h := fun z => limited (s.tuning t z).lmax) (fun n z hn => hn.trans (zonesOnly_limitZone t n z))
    (fun n z hn => by rw [heater_limitZone_same, hn.tuning]) (fun n z y _ hy => heater_limitZone_other t n hy)
    (nodup_activeZones (s.tubeConfig t).activeZones) s (.refl t s)
  rw [limitDemands_eq]
  simpa only [mem_activeZones] using hfold.2 z

/-! ### A change to each active zone of a thermal block -/

theorem mapActive_spec (r : ThermalRec) (n : Nat) (f : Zone → ZoneRec → ZoneRec) :
    r.mapActive n f = { r with zones := (r.mapActive n f).zones } ∧
      ∀ z, (r.mapActive n f).zones.get z = if z ∈ activeZones n then f z (r.zones.get z) else r.zones.get z :=
  foldl_at (I := fun m : ThermalRec => m = { r with zones := m.zones }) (get := fun m : ThermalRec => m.zones.get)
    (f := fun m z => m.setZone z (f z (m.zones.get z))) (h := f) (fun m z hm => by rw [hm]; rfl)
    (fun m z _ => by simp [ThermalRec.setZone])
    (fun m z y _ hy => by simp [ThermalRec.setZone, PerZone.get_set_other _ hy]) (nodup_activeZones n) r rfl

/-- Nothing but the zones changes. -/
theorem mapActive_frame (r : ThermalRec) (n : Nat) (f : Zone → ZoneRec → ZoneRec) :
    r.mapActive n f = { r with zones := (r.mapActive n f).zones } := (mapActive_spec r n f).1

theorem mapActive_zone (r : ThermalRec) (n : Nat) (f : Zone → ZoneRec → ZoneRec) (z : Zone) :
    (r.mapActive n f).zones.get z = if z.number ≤ n then f z (r.zones.get z) else r.zones.get z := by
  simpa only [mem_activeZones] using (mapActive_spec r n f).2 z

end Sys2Proof.ZoneRules

/-! SUPPORT. What an operation on the thermal blocks may do to the zones in the course of an event: the two invariants of the
zones as relations between the state before and the state after, one rule per operation (R46, R52, R63, R68, R80, R81). -/

namespace Sys2Proof.ZoneInvariants

open Sys2Proof.Machine Sys2Proof.ZoneRules

/-! ### The invariant of the heaters, zone by zone -/

/-- One zone's part of `State.heatersSound`. -/
def zoneHeld (s : State) (t : Tube) (z : Zone) : Prop :=
  (heater s t z).2.firing ≤ (heater s t z).1.demand ∧ (heater s t z).1.demand ≤ (s.tuning t z).lmax ∧
    (s.runState t = .offline ∨ (s.thermal.get t).inhibit ≠ .clear ∨ (s.tubeConfig t).activeZones < z.number →
      (heater s t z).1.demand = 0)

/-- `State.heatersSound` without the clause about the time before COMMISSION. -/
def heatersHeld (s : State) : Prop :=
  (∀ t, (s.thermal.get t).runState = s.runState t) ∧ ∀ t z, zoneHeld s t z

/-- The clause of `State.heatersSound` about the time before COMMISSION. -/
def offlineUntilLocked (s : State) : Prop := s.config.locked = false → ∀ t, s.runState t = .offline

theorem heatersSound_iff (s : State) : s.heatersSound ↔ heatersHeld s ∧ offlineUntilLocked s :=
  ⟨fun ⟨hstate, hoff, hzones⟩ => ⟨⟨hstate, hzones⟩, hoff⟩, fun ⟨⟨hstate, hzones⟩, hoff⟩ => ⟨hstate, hoff, hzones⟩⟩

/-- A demand of 0 that keeps its firing down holds whatever the output limit and the inhibit are. -/
theorem zoneHeld_of_zero {s : State} {t : Tube} {z : Zone} (hd : (heater s t z).1.demand = 0)
    (hf : (heater s t z).2.firing ≤ (heater s t z).1.demand) : zoneHeld s t z :=
  ⟨hf, by omega, fun _ => hd⟩

/-- Whether a zone is held depends on its records, its output limit and what may shut it. -/
theorem zoneHeld_congr {s n : State} {t : Tube} {z : Zone} (hheater : heater n t z = heater s t z)
    (hlimit : n.tuning t z = s.tuning t z) (hstate : n.runState t = s.runState t)
    (hinhibit : (n.thermal.get t).inhibit = (s.thermal.get t).inhibit) (hconfig : n.tubeConfig t = s.tubeConfig t) :
    zoneHeld n t z ↔ zoneHeld s t z := by
  simp only [zoneHeld, hheater, hlimit, hstate, hinhibit, hconfig]

/-- The three sample conditions of a zone record stand as its samples say (R49 to R51). -/
def judgedBy (cfg : TubeConfig) (r : ZoneRec) : Prop :=
  r.tcOpen = r.tcOpenHolds ∧ r.overtemp = r.overtempHolds cfg ∧ r.disagree = r.disagreeHolds cfg

/-- The three sample conditions of a zone of the bank stand as its samples say. -/
def judged (s : State) (t : Tube) (z : Zone) : Prop := judgedBy (s.tubeConfig t) (heater s t z).1

/-! ### What an operation keeps -/

/-- `n` keeps the two invariants of the zones that `s` has. -/
structure Kept (s n : State) : Prop where
  config : n.config = s.config
  ramps : s.rampsSound → n.rampsSound
  heaters : heatersHeld s → heatersHeld n

/-- `n` keeps the invariants, the samples and their conditions, and raises no demand: all that an event does to the zones
once its first work is done. -/
structure Eased (s n : State) : Prop extends Kept s n where
  samples : ∀ t z, (heater n t z).1.profile = (heater s t z).1.profile ∧ (heater n t z).1.spike = (heater s t z).1.spike
  lowered : ∀ t z, (heater n t z).1.demand ≤ (heater s t z).1.demand
  conditions : ∀ t z, judged s t z → judged n t z

/-- `b` has the samples of `a`, their conditions stand as before or as the samples say, its ramp stays sound and its demand
is not raised. -/
structure ZoneEased (cfg : TubeConfig) (a b : ZoneRec) : Prop where
  profile : b.profile = a.profile
  spike : b.spike = a.spike
  lowered : b.demand ≤ a.demand
  ramp : a.rampSound → b.rampSound
  conditions : judgedBy cfg a → judgedBy cfg b

section

variable {s n m : State} {t : Tube}

theorem Kept.refl (s : State) : Kept s s := ⟨rfl, id, id⟩

theorem Kept.trans (h : Kept s n) (g : Kept n m) : Kept s m :=
  ⟨g.config.trans h.config, g.ramps ∘ h.ramps, g.heaters ∘ h.heaters⟩

theorem Eased.refl (s : State) : Eased s s := ⟨.refl s, fun _ _ => ⟨rfl, rfl⟩, fun _ _ => le_rfl, fun _ _ => id⟩

theorem Eased.trans (h : Eased s n) (g : Eased n m) : Eased s m where
  toKept := h.toKept.trans g.toKept
  samples t z := ⟨(g.samples t z).1.trans (h.samples t z).1, (g.samples t z).2.trans (h.samples t z).2⟩
  lowered t z := (g.lowered t z).trans (h.lowered t z)
  conditions t z := g.conditions t z ∘ h.conditions t z

theorem ZoneEased.refl (cfg : TubeConfig) (a : ZoneRec) : ZoneEased cfg a a := ⟨rfl, rfl, le_rfl, id, id⟩

/-- Zones that are eased one by one are eased together. -/
theorem Eased.of_zones (hconfig : n.config = s.config)
    (hzones : ∀ u z, ZoneEased (s.tubeConfig u) (heater s u z).1 (heater n u z).1)
    (hheld : heatersHeld s → heatersHeld n) : Eased s n where
  config := hconfig
  ramps h u z := (hzones u z).ramp (h u z)
  heaters := hheld
  samples u z := ⟨(hzones u z).profile, (hzones u z).spike⟩
  lowered u z := (hzones u z).lowered
  conditions u z h := by
    have hcfg : n.tubeConfig u = s.tubeConfig u := by simp only [State.tubeConfig, hconfig]
    rw [judged, hcfg]
    exact (hzones u z).conditions h

/-! ### Operations that the zones do not notice -/

/-- Nothing that the invariants of the zones read has changed. -/
structure SameHeat (s n : State) : Prop where
  thermal : n.thermal = s.thermal
  banks : n.banks = s.banks
  config : n.config = s.config
  run : ∀ t, n.runState t = s.runState t ∧ (n.run.get t).bank = (s.run.get t).bank
  firing : ∀ t z, (n.alloc.zone t z).firing = (s.alloc.zone t z).firing

theorem SameHeat.refl (s : State) : SameHeat s s := ⟨rfl, rfl, rfl, fun _ => ⟨rfl, rfl⟩, fun _ _ => rfl⟩

theorem SameHeat.trans (h : SameHeat s n) (g : SameHeat n m) : SameHeat s m where
  thermal := g.thermal.trans h.thermal
  banks := g.banks.trans h.banks
  config := g.config.trans h.config
  run t := ⟨(g.run t).1.trans (h.run t).1, (g.run t).2.trans (h.run t).2⟩
  firing t z := (g.firing t z).trans (h.firing t z)

theorem SameHeat.eased (h : SameHeat s n) : Eased s n := by
  refine .of_zones h.config (fun u z => ?_) (fun ⟨hstate, hzones⟩ => ⟨fun u => ?_, fun u z => ?_⟩)
  · simp only [heater, h.thermal]
    exact .refl _ _
  · rw [h.thermal, (h.run u).1, hstate u]
  · have hzone := hzones u z
    simp only [zoneHeld, heater, State.tuning, State.tubeConfig, h.thermal, h.banks, h.config, h.run u, h.firing] at hzone ⊢
    exact hzone

/-- A change that the zones do not notice, and then one that eases them. -/
theorem Eased.after_same (h : Eased n m) (g : SameHeat s n) : Eased s m := g.eased.trans h

theorem SameHeat.kept (h : SameHeat s n) : Kept s n := h.eased.toKept

/-- A state that differs in none of the records the zones read. -/
theorem SameHeat.of_records (hthermal : n.thermal = s.thermal) (hbanks : n.banks = s.banks)
    (hconfig : n.config = s.config) (hrun : n.run = s.run) (hzones : n.alloc.zones = s.alloc.zones) : SameHeat s n :=
  ⟨hthermal, hbanks, hconfig, fun t => by simp [State.runState, hrun], fun t z => by simp [Alloc.zone, hzones]⟩

theorem sameHeat_setGas (s : State) (g : Gas) : SameHeat s (s.setGas g) := .of_records rfl rfl rfl rfl rfl
theorem sameHeat_setAtm (s : State) (t : Tube) (a : AtmRec) : SameHeat s (s.setAtm t a) := .of_records rfl rfl rfl rfl rfl
theorem sameHeat_setBoat (s : State) (t : Tube) (b : BoatRec) : SameHeat s (s.setBoat t b) :=
  .of_records rfl rfl rfl rfl rfl
theorem sameHeat_setFaults (s : State) (f : Faults) : SameHeat s (s.setFaults f) := .of_records rfl rfl rfl rfl rfl
theorem sameHeat_setLink (s : State) (l : Link) : SameHeat s (s.setLink l) := .of_records rfl rfl rfl rfl rfl
theorem sameHeat_setStore (s : State) (st : Store) : SameHeat s (s.setStore st) := .of_records rfl rfl rfl rfl rfl
theorem sameHeat_lines (s : State) (l : Lines) : SameHeat s { s with lines := l } := .of_records rfl rfl rfl rfl rfl

theorem sameHeat_notice (c : Ctx) (k : Notice) : SameHeat c.s (c.notice k).s := sameHeat_setLink c.s _

/-- A run record written with its state and its bank pointer as they were. -/
theorem sameHeat_setRun {r : RunRec} (hstate : r.state = (s.run.get t).state) (hbank : r.bank = (s.run.get t).bank) :
    SameHeat s (s.setRun t r) := by
  refine ⟨rfl, rfl, rfl, fun u => ?_, fun _ _ => rfl⟩
  by_cases hu : u = t
  · subst hu
    simp [State.runState, hstate, hbank]
  · simp [State.runState, PerTube.get_set_other _ hu]

/-- An allocator zone record written with its firing as it was. -/
theorem sameHeat_setAllocZone {z : Zone} {a : AllocZone} (hfiring : a.firing = (s.alloc.zone t z).firing) :
    SameHeat s (s.setAlloc (s.alloc.setZone t z a)) := by
  refine ⟨rfl, rfl, rfl, fun _ => ⟨rfl, rfl⟩, fun u y => ?_⟩
  by_cases hy : u = t ∧ y = z
  · obtain ⟨rfl, rfl⟩ := hy
    simp [alloc_setZone_same, hfiring]
  · simp [alloc_setZone_other _ hy]

/-! ### Operations on one thermal block -/

/-- A thermal block written with its run state, without a new inhibit, and with the demands of its zones as they were. -/
theorem heatersHeld_setThermal {th : ThermalRec} (hstate : th.runState = (s.thermal.get t).runState)
    (hinhibit : th.inhibit ≠ .clear → (s.thermal.get t).inhibit ≠ .clear)
    (hdemand : ∀ z, (th.zones.get z).demand = ((s.thermal.get t).zones.get z).demand) (h : heatersHeld s) :
    heatersHeld (s.setThermal t th) := by
  refine ⟨fun u => ?_, fun u z => ?_⟩ <;> by_cases hu : u = t
  · subst hu
    rw [State.setThermal_thermal, PerTube.get_set_same, hstate]
    exact h.1 u
  · rw [State.setThermal_thermal, PerTube.get_set_other _ hu]
    exact h.1 u
  · subst hu
    obtain ⟨hf, hd, hoff⟩ := h.2 u z
    have hsame : (heater (s.setThermal u th) u z).1.demand = (heater s u z).1.demand := by simp [heater, hdemand]
    refine ⟨hsame ▸ hf, hsame ▸ hd, fun h => hsame.trans (hoff (h.imp_right (Or.imp_left fun hi => hinhibit ?_)))⟩
    simpa using hi
  · exact (zoneHeld_congr (s := s) (n := s.setThermal t th) (by simp [heater, PerTube.get_set_other _ hu]) rfl rfl
      (by simp [PerTube.get_set_other _ hu]) rfl).2 (h.2 u z)

/-- A thermal block written so, its zones being eased. -/
theorem eased_setThermal {th : ThermalRec} (hstate : th.runState = (s.thermal.get t).runState)
    (hinhibit : th.inhibit ≠ .clear → (s.thermal.get t).inhibit ≠ .clear)
    (hzones : ∀ z, ZoneEased (s.tubeConfig t) ((s.thermal.get t).zones.get z) (th.zones.get z))
    (hdemand : ∀ z, (th.zones.get z).demand = ((s.thermal.get t).zones.get z).demand) : Eased s (s.setThermal t th) := by
  refine .of_zones rfl (fun u z => ?_) (heatersHeld_setThermal hstate hinhibit hdemand)
  by_cases hu : u = t
  · subst hu
    simpa [heater] using hzones z
  · simpa [heater, PerTube.get_set_other _ hu] using ZoneEased.refl _ _

/-- A thermal block written with its run state, inhibit and zones as they were. -/
theorem eased_setThermal_sameZones {th : ThermalRec} (hstate : th.runState = (s.thermal.get t).runState)
    (hinhibit : th.inhibit = (s.thermal.get t).inhibit) (hzones : th.zones = (s.thermal.get t).zones) :
    Eased s (s.setThermal t th) :=
  eased_setThermal hstate (by rw [hinhibit]; exact id) (fun z => by rw [hzones]; exact .refl _ _) (fun z => by rw [hzones])

/-- A change of the ramps of the active zones. -/
theorem eased_mapActive {count : Nat} {f : Zone → ZoneRec → ZoneRec} (hf : ∀ z r, ZoneEased (s.tubeConfig t) r (f z r))
    (hdemand : ∀ z r, (f z r).demand = r.demand) :
    Eased s (s.setThermal t ((s.thermal.get t).mapActive count f)) := by
  have hframe := mapActive_frame (s.thermal.get t) count f
  refine eased_setThermal (by rw [hframe]) (by rw [hframe]; exact id) (fun z => ?_) (fun z => ?_)
  · rw [mapActive_zone]
    split
    · exact hf z _
    · exact .refl _ _
  · rw [mapActive_zone]
    split
    · exact hdemand z _
    · rfl

theorem zoneEased_seed (cfg : TubeConfig) (r : ZoneRec) : ZoneEased cfg r r.seed := by
  unfold ZoneRec.seed
  split
  · exact ⟨rfl, rfl, le_rfl, fun _ => by simp [ZoneRec.rampSound], id⟩
  · exact .refl _ r

theorem zoneEased_stop (cfg : TubeConfig) (r : ZoneRec) : ZoneEased cfg r r.stop :=
  ⟨rfl, rfl, le_rfl, fun _ => by simp [ZoneRec.rampSound, ZoneRec.stop], id⟩

/-- A retarget takes the setpoint as the ramp's origin (R52). -/
theorem zoneEased_retarget (cfg : TubeConfig) (r : ZoneRec) (v : Nat) : ZoneEased cfg r (r.retarget v) := by
  refine ⟨rfl, rfl, le_rfl, fun _ => ?_, id⟩
  simp only [ZoneRec.rampSound, ZoneRec.retarget, decide_eq_true_eq]
  omega

theorem seed_demand (r : ZoneRec) : r.seed.demand = r.demand := by
  unfold ZoneRec.seed
  split <;> rfl

theorem eased_seed (s : State) (t : Tube) : Eased s (s.seed t) :=
  eased_mapActive (fun _ r => zoneEased_seed _ r) (fun _ r => seed_demand r)

theorem eased_stopRamps (s : State) (t : Tube) : Eased s (s.stopRamps t) :=
  eased_mapActive (fun _ r => zoneEased_stop _ r) (fun _ _ => rfl)

theorem eased_retarget (s : State) (t : Tube) (l : List Nat) : Eased s (s.retarget t l) := by
  refine eased_mapActive (fun z r => ?_) (fun z r => ?_)
  · split
    · exact zoneEased_retarget _ r _
    · exact .refl _ r
  · split <;> rfl

theorem eased_clearInhibit (s : State) (t : Tube) : Eased s (s.clearInhibit t) := by
  unfold State.clearInhibit
  split
  · exact .refl s
  · refine .trans ?_ (eased_seed _ t)
    exact eased_setThermal rfl (fun h => absurd rfl h) (fun _ => .refl _ _) (fun _ => rfl)

theorem eased_handOver (s : State) (t : Tube) : Eased s (s.handOver t) := eased_setThermal_sameZones rfl rfl rfl

theorem eased_zeroCounter (s : State) (t : Tube) : Eased s (s.setThermal t (s.thermal.get t).zeroCounter) :=
  eased_setThermal_sameZones rfl rfl rfl

/-- Judging the samples of a zone writes its conditions as its samples say (R49 to R51). -/
theorem eased_judgeSamples (t : Tube) (z : Zone) (c : Ctx) : Eased c.s (taskJudgeSamples t z c).1.s := by
  refine eased_setThermal rfl id (fun y => ?_) (fun y => ?_) <;> by_cases hy : y = z
  · subst hy
    simpa [ThermalRec.setZone] using ⟨rfl, rfl, le_rfl, id, fun _ => ⟨rfl, rfl, rfl⟩⟩
  · simpa [ThermalRec.setZone, PerZone.get_set_other _ hy] using ZoneEased.refl _ _
  · subst hy
    simp [ThermalRec.setZone]
  · simp [ThermalRec.setZone, PerZone.get_set_other _ hy]

/-! ### Operations that lower demands -/

/-- An operation on one tube that keeps the run states and the other tubes as they are, and whose zones are eased and
held at its end. -/
theorem Eased.of_tube (hconfig : n.config = s.config) (hbanks : n.banks = s.banks)
    (hrun : ∀ u, n.runState u = s.runState u) (hblock : ∀ u, (n.thermal.get u).runState = (s.thermal.get u).runState)
    (hothers : ∀ u, u ≠ t → n.run.get u = s.run.get u ∧ (n.thermal.get u).inhibit = (s.thermal.get u).inhibit ∧
      ∀ z, heater n u z = heater s u z)
    (hzones : ∀ z, ZoneEased (s.tubeConfig t) (heater s t z).1 (heater n t z).1)
    (hheld : heatersHeld s → ∀ z, zoneHeld n t z) : Eased s n := by
  refine .of_zones hconfig (fun u z => ?_) (fun h => ⟨fun u => ?_, fun u z => ?_⟩)
  · by_cases hu : u = t
    · exact hu ▸ hzones z
    · rw [(hothers u hu).2.2]
      exact .refl _ _
  · rw [hblock, hrun]
    exact h.1 u
  · by_cases hu : u = t
    · exact hu ▸ hheld h z
    · obtain ⟨hr, hi, hz⟩ := hothers u hu
      exact (zoneHeld_congr (hz z) (by simp only [State.tuning, hr, hbanks]) (hrun u) hi
        (by simp only [State.tubeConfig, hconfig])).2 (h.2 u z)

/-- A zone above the active zones stays held while its records stand: its demand is 0. -/
theorem zoneHeld_inactive {z : Zone} (h : zoneHeld s t z) (hz : ¬ z.number ≤ (s.tubeConfig t).activeZones)
    (hheater : heater n t z = heater s t z) : zoneHeld n t z := by
  obtain ⟨hfiring, -, hoff⟩ := h
  exact zoneHeld_of_zero (by rw [hheater]; exact hoff (.inr (.inr (Nat.not_le.1 hz)))) (by rw [hheater]; exact hfiring)

/-! ### The inhibit (R63, R65) -/

/-- The inhibit after a setting with a cause (R65, log entry 14). -/
def inhibitAfter (old cause : Inhibit) : Inhibit := if cause = .idle ∧ old ≠ .clear then old else cause

theorem setInhibit_eq (s : State) (t : Tube) (cause : Inhibit) : s.setInhibit t cause =
    (s.setThermal t { s.thermal.get t with inhibit := inhibitAfter (s.thermal.get t).inhibit cause }).cutDemands t := rfl

theorem setInhibit_block (s : State) (t : Tube) (cause : Inhibit) (u : Tube) :
    (s.setInhibit t cause).thermal.get u = { s.thermal.get u with
      zones := ((s.setInhibit t cause).thermal.get u).zones
      inhibit := if u = t then inhibitAfter (s.thermal.get t).inhibit cause else (s.thermal.get u).inhibit } := by
  rw [setInhibit_eq, (zonesOnly_cutDemands _ t).blocks u]
  by_cases hu : u = t
  · subst hu; simp
  · simp [hu, PerTube.get_set_other _ hu]

theorem heater_setInhibit (s : State) (t : Tube) (cause : Inhibit) (z : Zone) : heater (s.setInhibit t cause) t z =
    if z.number ≤ (s.tubeConfig t).activeZones then
      ({ (heater s t z).1 with demand := 0 }, { (heater s t z).2 with firing := 0 })
    else heater s t z := by
  rw [setInhibit_eq, heater_cutDemands]
  simp only [heater, State.setThermal_thermal, PerTube.get_set_same]
  rfl

theorem eased_setInhibit (s : State) (t : Tube) (cause : Inhibit) : Eased s (s.setInhibit t cause) := by
  have honly := zonesOnly_cutDemands
    (s.setThermal t { s.thermal.get t with inhibit := inhibitAfter (s.thermal.get t).inhibit cause }) t
  refine .of_tube (t := t) honly.config honly.banks honly.runState (fun u => ?_) (fun u hu => ⟨?_, ?_, fun z => ?_⟩)
    (fun z => ?_) (fun h z => ?_)
  · rw [setInhibit_block]
  · exact congrArg (PerTube.get · u) honly.run
  · rw [setInhibit_block]
    exact if_neg hu
  · rw [setInhibit_eq, honly.others u hu]
    simp [heater, PerTube.get_set_other _ hu]
  · rw [heater_setInhibit]
    split
    · exact ⟨rfl, rfl, Nat.zero_le _, id, id⟩
    · exact .refl _ _
  · have hzone := heater_setInhibit s t cause z
    split at hzone
    next => exact zoneHeld_of_zero (by rw [hzone]) (by rw [hzone])
    next hz => exact zoneHeld_inactive (h.2 t z) hz hzone

/-! ### The tuning-bank pointer (R3, R68) -/

theorem limited_held {l : Nat} {p : ZoneRec × AllocZone} (h : p.2.firing ≤ p.1.demand) :
    (limited l p).2.firing ≤ (limited l p).1.demand ∧ (limited l p).1.demand ≤ l ∧
      (limited l p).1.demand ≤ p.1.demand := by
  unfold limited
  split
  · exact ⟨Nat.min_le_right _ _, le_rfl, Nat.le_of_lt ‹_›⟩
  · exact ⟨h, by omega, le_rfl⟩

/-- A zone held under its old output limit is held under the new one once it is limited to it. -/
theorem zoneHeld_limited {z : Zone} (h : zoneHeld s t z)
    (hheater : heater n t z = limited (n.tuning t z).lmax (heater s t z)) (hstate : n.runState t = s.runState t)
    (hinhibit : (n.thermal.get t).inhibit = (s.thermal.get t).inhibit) (hconfig : n.tubeConfig t = s.tubeConfig t) :
    zoneHeld n t z := by
  obtain ⟨hfiring, -, hoff⟩ := h
  obtain ⟨hf, hd, hless⟩ := limited_held (l := (n.tuning t z).lmax) hfiring
  rw [← hheater] at hf hd hless
  refine ⟨hf, hd, fun hshut => ?_⟩
  rw [hstate, hinhibit, hconfig] at hshut
  have hzero := hoff hshut
  omega

theorem heater_setBank (s : State) (t : Tube) (b : Fin 8) (z : Zone) : heater (s.setBank t b) t z =
    if z.number ≤ (s.tubeConfig t).activeZones then limited ((s.banks[b]).get z).lmax (heater s t z)
    else heater s t z := by
  have hlimit : (s.setRun t { s.run.get t with bank := b }).tuning t z = (s.banks[b]).get z := by simp [State.tuning]
  rw [State.setBank, heater_limitDemands, hlimit]
  rfl

theorem eased_setBank (s : State) (t : Tube) (b : Fin 8) : Eased s (s.setBank t b) := by
  have honly := zonesOnly_limitDemands (s.setRun t { s.run.get t with bank := b }) t
  have hrun : ∀ u, (s.setBank t b).runState u = s.runState u := by
    intro u
    rw [State.setBank, honly.runState]
    by_cases hu : u = t
    · subst hu; simp [State.runState]
    · simp [State.runState, PerTube.get_set_other _ hu]
  have hblock : ∀ u, (s.setBank t b).thermal.get u =
      { s.thermal.get u with zones := ((s.setBank t b).thermal.get u).zones } := honly.blocks
  refine .of_tube (t := t) honly.config honly.banks hrun (fun u => by rw [hblock])
    (fun u hu => ⟨?_, by rw [hblock], honly.others u hu⟩) (fun z => ?_) (fun h z => ?_)
  · rw [State.setBank, honly.run, State.setRun_run, PerTube.get_set_other _ hu]
  · rw [heater_setBank]
    split
    · rw [limited_fst]
      exact ⟨rfl, rfl, Nat.min_le_left _ _, id, id⟩
    · exact .refl _ _
  · have hzone := heater_setBank s t b z
    have hlimit : (s.setBank t b).tuning t z = (s.banks[b]).get z := by
      rw [State.setBank, honly.tuning]
      simp [State.tuning]
    rw [← hlimit] at hzone
    split at hzone
    next => exact zoneHeld_limited (h.2 t z) hzone (hrun t) (by rw [hblock]) (honly.tubeConfig t)
    next hz => exact zoneHeld_inactive (h.2 t z) hz hzone

/-! ### The run state (R4, R7) -/

/-- A change of run state writes the run record and the thermal block of one tube and hands over a notice. -/
theorem changeState_s (c : Ctx) (t : Tube) (new : RunState) (cause : Cause) : ∃ th l,
    (c.changeState t new cause).s =
      ((c.s.setRun t { c.s.run.get t with state := new }).setThermal t th).setLink l ∧
    th.runState = new ∧ th.inhibit = (c.s.thermal.get t).inhibit ∧ th.zones = (c.s.thermal.get t).zones := by
  refine ⟨_, _, rfl, ?_⟩
  split <;> exact ⟨rfl, rfl, rfl⟩

theorem changeState_runState (c : Ctx) (t : Tube) (new : RunState) (cause : Cause) (u : Tube) :
    (c.changeState t new cause).s.runState u = if u = t then new else c.s.runState u := by
  obtain ⟨th, l, hs, -⟩ := changeState_s c t new cause
  by_cases hu : u = t
  · subst hu; simp [hs, State.runState]
  · simp [hs, hu, State.runState, PerTube.get_set_other _ hu]

/-- The new run state is told to the thermal block in the same event, and the tube is not OFFLINE then. -/
theorem eased_changeState (c : Ctx) (t : Tube) {new : RunState} (cause : Cause) (hnew : new ≠ .offline) :
    Eased c.s (c.changeState t new cause).s := by
  have hrun := changeState_runState c t new cause
  obtain ⟨th, l, hs, hstate, hinhibit, hzones⟩ := changeState_s c t new cause
  have hheater : ∀ u z, heater (c.changeState t new cause).s u z = heater c.s u z := by
    intro u z
    by_cases hu : u = t
    · subst hu; simp [hs, heater, hzones]
    · simp [hs, heater, PerTube.get_set_other _ hu]
  have hlimit : ∀ u z, (c.changeState t new cause).s.tuning u z = c.s.tuning u z := by
    intro u z
    by_cases hu : u = t
    · subst hu; simp [hs, State.tuning]
    · simp [hs, State.tuning, PerTube.get_set_other _ hu]
  have hconfig : (c.changeState t new cause).s.config = c.s.config := by rw [hs]; rfl
  refine .of_zones hconfig (fun u z => ?_) (fun h => ⟨fun u => ?_, fun u z => ?_⟩)
  · rw [hheater]
    exact .refl _ _
  · rw [hrun, hs]
    by_cases hu : u = t
    · subst hu; simp [hstate]
    · simp [hu, PerTube.get_set_other _ hu, h.1 u]
  · obtain ⟨hf, hd, hoff⟩ := h.2 u z
    refine ⟨by rw [hheater]; exact hf, by rw [hheater, hlimit]; exact hd, fun hshut => ?_⟩
    rw [hheater]
    refine hoff ?_
    rw [hrun, State.tubeConfig, hconfig, hs] at hshut
    by_cases hu : u = t
    · subst hu
      simp only [hnew, if_true, false_or, State.setLink_thermal, State.setThermal_thermal, PerTube.get_set_same,
        hinhibit] at hshut
      exact .inr hshut
    · simpa [hu, PerTube.get_set_other _ hu, State.tubeConfig] using hshut

end

end Sys2Proof.ZoneInvariants

/-! SUPPORT. What the messages of an event do to the zones: every message keeps the invariants of the zones and raises no
demand, and while every tube is OFFLINE the messages that can be given change no run state (R5, R48 to R68, R81). -/

namespace Sys2Proof.ZoneEvents

open Sys2Proof.Machine Sys2Proof.ZoneRules Sys2Proof.ZoneInvariants

/-! ### Messages that the zones do not notice -/

/-- A message that changes no run state, nor brings about a change of one, while every tube is OFFLINE. -/
def calm : Task → Bool
  | .stepEnd _ | .enter .. | .entryFinish _ | .endRun .. | .idle _ | .enterHolding .. | .leaveHolding _ | .abort ..
  | .abortFinish .. | .enterSafe .. | .safeFinish .. | .commissionTube _ => false
  | _ => true

/-- An answer after which the zones stand as in `s`, and whose messages are calm. -/
structure Quiet (s : State) (r : Ctx × List Task) : Prop where
  same : SameHeat s r.1.s
  calm : ∀ k ∈ r.2, calm k = true

section

variable {s : State} {c : Ctx} {t : Tube}

theorem Quiet.nothing (h : SameHeat s c.s) : Quiet s (c, []) := ⟨h, by simp⟩

theorem Quiet.none (c : Ctx) : Quiet c.s (c, []) := .nothing (.refl _)

/-- A quiet answer given after a change that the zones do not notice. -/
theorem Quiet.after {r : Ctx × List Task} (h : SameHeat s c.s) (q : Quiet c.s r) : Quiet s r :=
  ⟨h.trans q.same, q.calm⟩

/-! ### The run controller -/

theorem quiet_taskStepTimeout (t : Tube) (c : Ctx) : Quiet c.s (taskStepTimeout t c) := by
  unfold taskStepTimeout
  dsimp only
  split
  · split
    · exact ⟨sameHeat_setRun rfl rfl, by simp [ZoneEvents.calm]⟩
    · exact .none c
  · exact .none c

theorem quiet_stepTimerTick (t : Tube) (c : Ctx) : Quiet c.s (stepTimerTick t c) := by
  unfold stepTimerTick
  dsimp only
  split
  · exact ⟨sameHeat_setRun rfl rfl, by simp [ZoneEvents.calm]⟩
  · exact .none c

theorem quiet_taskEntryGas (t : Tube) (f : PerLine (Option Nat)) (c : Ctx) : Quiet c.s (taskEntryGas t f c) :=
  ⟨sameHeat_setRun rfl rfl, by simp [taskEntryGas, ZoneEvents.calm]⟩

theorem quiet_taskEntryMove (t : Tube) (x v : Nat) (c : Ctx) : Quiet c.s (taskEntryMove t x v c) :=
  ⟨sameHeat_setRun rfl rfl, by simp [taskEntryMove, ZoneEvents.calm]⟩

theorem quiet_taskRelease (t : Tube) (c : Ctx) : Quiet c.s (taskRelease t c) := by
  unfold taskRelease
  split
  · exact .none c
  · split
    · exact ⟨.refl _, by simp [ZoneEvents.calm]⟩
    · exact .none c

theorem quiet_taskTempReport (t : Tube) (met : Bool) (c : Ctx) : Quiet c.s (taskTempReport t met c) := by
  unfold taskTempReport
  dsimp only
  split
  · exact .none c
  · refine ⟨sameHeat_setRun rfl rfl, ?_⟩
    dsimp only
    split <;> simp [ZoneEvents.calm]

/-! ### The fault block and the allocator -/

theorem quiet_handAction (t : Tube) (a : Applied) (k : FaultKind) (c : Ctx) : Quiet c.s (handAction t a k c) := by
  unfold handAction
  split
  · split
    · exact .nothing (.refl _)
    · exact ⟨.refl _, by simp [ZoneEvents.calm]⟩
  · exact .none c

theorem quiet_taskBankDetect (l : BankLine) (c : Ctx) : Quiet c.s (taskBankDetect l c) :=
  ⟨.refl _, by simp [taskBankDetect, ZoneEvents.calm]⟩

theorem quiet_taskShedDetect (m l : Nat) (c : Ctx) : Quiet c.s (taskShedDetect m l c) := by
  unfold taskShedDetect
  dsimp only
  split
  · exact .none c
  · refine ⟨sameHeat_setFaults .., fun k hk => ?_⟩
    obtain ⟨p, -, rfl⟩ := List.mem_map.1 hk
    rfl

theorem quiet_taskShedActed (t : Tube) (a : Applied) (l : Nat) (rs : RunState) (q p : Nat) (c : Ctx) :
    Quiet c.s (taskShedActed t a l rs q p c) := by
  unfold taskShedActed
  split
  · exact quiet_handAction ..
  · exact .after (sameHeat_notice ..) (quiet_handAction ..)

theorem quiet_bankLineEdge (l : BankLine) (rising : Bool) (c : Ctx) : Quiet c.s (bankLineEdge l rising c) := by
  refine ⟨.of_records rfl rfl rfl rfl rfl, ?_⟩
  unfold bankLineEdge
  dsimp only
  split <;> simp [ZoneEvents.calm]

theorem quiet_taskPowerStarved (t : Tube) (z : Zone) (c : Ctx) : Quiet c.s (taskPowerStarved t z c) := by
  unfold taskPowerStarved
  dsimp only
  split
  · exact ⟨sameHeat_setAllocZone rfl, by simp [ZoneEvents.calm]⟩
  · exact .none c

theorem quiet_shedOnset (c : Ctx) : Quiet c.s (shedOnset c) := by
  unfold shedOnset
  split
  · exact ⟨.of_records rfl rfl rfl rfl rfl, by simp [ZoneEvents.calm]⟩
  · exact .none c

/-- The bank as an edge of the load-shed line leaves it (R74). -/
def shedEdged (rising : Bool) (c : Ctx) : Ctx :=
  c.put { c.s.setAlloc { c.s.alloc with shed := rising, shedActive := c.s.alloc.shedActive && rising } with
    lines := { c.s.lines with loadShed := rising } }

theorem quiet_shedEdge (rising : Bool) (c : Ctx) : Quiet c.s (shedEdge rising c) := by
  have hedged : SameHeat c.s (shedEdged rising c).s := .of_records rfl rfl rfl rfl rfl
  exact .after hedged (quiet_shedOnset (shedEdged rising c))

/-! ### The gas supply arbiter -/

theorem quiet_gasTickStart (t : Tube) (c : Ctx) : Quiet c.s (gasTickStart t c) := by
  unfold gasTickStart
  dsimp only
  split
  · exact .none c
  · refine ⟨sameHeat_setGas .., fun k hk => ?_⟩
    simp only [List.mem_append, List.mem_singleton, Gas.dueReports, List.mem_flatMap] at hk
    obtain (rfl | ⟨l, -, hl⟩) | rfl := hk
    · rfl
    · split at hl
      · rw [List.mem_singleton.1 hl]
        rfl
      · simp at hl
    · rfl

theorem quiet_taskHeaderWait (t : Tube) (c : Ctx) : Quiet c.s (taskHeaderWait t c) := by
  unfold taskHeaderWait
  dsimp only
  split
  · split
    · exact ⟨sameHeat_setGas .., by simp [ZoneEvents.calm]⟩
    · exact .none c
  · exact .none c

theorem quiet_taskFlowDeviation (t : Tube) (l : GasLine) (c : Ctx) : Quiet c.s (taskFlowDeviation t l c) := by
  unfold taskFlowDeviation
  dsimp only
  split
  · exact ⟨sameHeat_setGas .., by simp [lineDetection, ZoneEvents.calm]⟩
  · exact .none c

/-! ### The atmosphere controllers -/

theorem sameHeat_setGas_setAtm (s : State) (g : Gas) (t : Tube) (a : AtmRec) : SameHeat s ((s.setGas g).setAtm t a) :=
  .trans (sameHeat_setGas s g) (sameHeat_setAtm _ t a)

theorem calm_atmTasks {mid : List Task} (h : ∀ k ∈ mid, calm k = true) (t : Tube) (a b : AtmRec) :
    ∀ k ∈ atmTasks t a b mid, calm k = true := by
  intro k hk
  simp only [atmTasks, List.mem_append, List.mem_singleton] at hk
  obtain ((rfl | hk) | hk) | hk := hk
  · rfl
  · split at hk
    · rw [List.mem_singleton.1 hk]
      rfl
    · simp at hk
  · exact h k hk
  · split at hk
    · simp at hk
    · rw [List.mem_singleton.1 hk]
      rfl

theorem calm_examineIf (b : Bool) : ∀ k ∈ (if b then [Task.examine] else []), calm k = true := by
  cases b <;> simp [calm]

theorem quiet_submitChange (t : Tube) (f : Flows) (p : Phase) (o : WaitOrigin) (c : Ctx) :
    Quiet c.s (submitChange t f p o c) :=
  ⟨sameHeat_setGas_setAtm .., calm_atmTasks (calm_examineIf _) _ _ _⟩

theorem quiet_extinguish {mid : List Task} (h : ∀ k ∈ mid, ZoneEvents.calm k = true) (t : Tube) (c : Ctx) :
    Quiet c.s (extinguish t mid c) := by
  refine ⟨sameHeat_setGas_setAtm .., calm_atmTasks (fun k hk => ?_) _ _ _⟩
  obtain hk | hk := List.mem_append.1 hk
  · exact calm_examineIf _ k hk
  · exact h k hk

theorem quiet_taskExamine (c : Ctx) : Quiet c.s (taskExamine c) := by
  unfold taskExamine
  split
  · refine ⟨sameHeat_setGas_setAtm .., fun k hk => ?_⟩
    obtain hk | hk := List.mem_append.1 hk
    · exact calm_atmTasks (by simp) _ _ _ k hk
    · rw [List.mem_singleton.1 hk]
      rfl
  · exact .none c

theorem quiet_pathFromStable (t : Tube) (l : AtmClass) (o : WaitOrigin) (c : Ctx) :
    Quiet c.s (pathFromStable t l o c) := by
  unfold pathFromStable
  dsimp only
  split
  · exact .after (c := c.put _) (sameHeat_setAtm ..) (quiet_submitChange ..)
  · exact quiet_submitChange ..

theorem quiet_continuation (t : Tube) (c : Ctx) : Quiet c.s (continuation t c) := by
  unfold continuation
  dsimp only
  split <;> exact quiet_submitChange ..

theorem quiet_taskRecompute (t : Tube) (w : Bool) (c : Ctx) : Quiet c.s (taskRecompute t w c) := by
  have hnone : Quiet c.s (c, []) := .none c
  have hext : Quiet c.s (extinguish t [] c) := quiet_extinguish (by simp) t c
  unfold taskRecompute
  dsimp only
  split
  case h_1 | h_2 => exact quiet_pathFromStable ..
  case h_3 =>
    split
    · exact quiet_pathFromStable ..
    · split
      · exact quiet_submitChange ..
      · exact hnone
    · exact quiet_continuation ..
    · exact quiet_pathFromStable ..
  case h_4 =>
    split
    · exact hnone
    · exact .after (c := c.put _) (sameHeat_setAtm ..) (quiet_submitChange ..)
  case h_5 =>
    split
    · split
      · exact quiet_submitChange ..
      · split
        · exact hnone
        · exact quiet_submitChange ..
    · exact hext
  case h_6 =>
    split
    · exact hnone
    · exact hext
  case h_7 =>
    split
    · exact quiet_submitChange ..
    · exact hext
  case h_8 => exact hnone

theorem quiet_taskGasRequest (t : Tube) (f : PerLine (Option Nat)) (c : Ctx) : Quiet c.s (taskGasRequest t f c) := by
  refine ⟨sameHeat_setAtm .., fun k hk => ?_⟩
  obtain hk | hk := List.mem_append.1 hk <;> split at hk
  · rw [List.mem_singleton.1 hk]
    rfl
  · simp at hk
  · simp at hk
  · rw [List.mem_singleton.1 hk]
    rfl

theorem quiet_taskWithdraw (t : Tube) (c : Ctx) : Quiet c.s (taskWithdraw t c) := by
  unfold taskWithdraw
  dsimp only
  split
  · exact .none c
  · exact ⟨sameHeat_setGas_setAtm .., by simp [ZoneEvents.calm]⟩

theorem quiet_taskSafeFlow (t : Tube) (c : Ctx) : Quiet c.s (taskSafeFlow t c) :=
  ⟨sameHeat_setGas_setAtm .., by simp [taskSafeFlow, ZoneEvents.calm]⟩

theorem quiet_taskAtmReport (t : Tube) (c : Ctx) : Quiet c.s (taskAtmReport t c) := by
  refine ⟨sameHeat_setRun rfl rfl, ?_⟩
  unfold taskAtmReport
  dsimp only
  split <;> simp [ZoneEvents.calm]

theorem quiet_taskAtmTick (t : Tube) (c : Ctx) : Quiet c.s (taskAtmTick t c) := by
  unfold taskAtmTick
  dsimp only
  split
  · exact .none c
  · split
    case h_5 => exact .none c
    all_goals exact ⟨sameHeat_setAtm .., by simp [ZoneEvents.calm]⟩

theorem quiet_taskPurgeComplete (t : Tube) (c : Ctx) : Quiet c.s (taskPurgeComplete t c) := by
  unfold taskPurgeComplete
  dsimp only
  split
  · exact .after (c := c.put _) (sameHeat_setAtm ..) (quiet_continuation ..)
  · exact .none c

theorem quiet_taskPurgeIncomplete (t : Tube) (c : Ctx) : Quiet c.s (taskPurgeIncomplete t c) := by
  unfold taskPurgeIncomplete
  dsimp only
  split
  · exact ⟨sameHeat_setAtm .., by simp [ZoneEvents.calm]⟩
  · exact .none c

theorem quiet_taskIgnitionTest (t : Tube) (c : Ctx) : Quiet c.s (taskIgnitionTest t c) := by
  unfold taskIgnitionTest
  split
  · exact quiet_submitChange ..
  · exact .none c

theorem quiet_taskIgnitionFailed (t : Tube) (c : Ctx) : Quiet c.s (taskIgnitionFailed t c) := by
  unfold taskIgnitionFailed
  dsimp only
  split
  · exact .after (c := c.put _) (sameHeat_setAtm ..) (quiet_extinguish (by simp [ZoneEvents.calm]) ..)
  · exact .none c

theorem quiet_taskPostFlowEnd (t : Tube) (c : Ctx) : Quiet c.s (taskPostFlowEnd t c) := by
  unfold taskPostFlowEnd
  dsimp only
  split
  · exact quiet_submitChange ..
  · exact .none c

theorem sameHeat_setFlame (s : State) (t : Tube) (high : Bool) : SameHeat s (s.setFlame t high) :=
  .of_records rfl rfl rfl rfl rfl

theorem quiet_flameRise (t : Tube) (c : Ctx) : Quiet c.s (flameRise t c) := by
  refine .after (c := c.put (c.s.setFlame t true)) (sameHeat_setFlame ..) ?_
  unfold flameRise
  dsimp only
  split
  · exact .after (c := Ctx.put _ _) (sameHeat_setAtm ..) (quiet_submitChange ..)
  · exact .none _

theorem quiet_flameFall (t : Tube) (c : Ctx) : Quiet c.s (flameFall t c) := by
  refine .after (c := c.put (c.s.setFlame t false)) (sameHeat_setFlame ..) ?_
  unfold flameFall
  dsimp only
  split
  · exact quiet_extinguish (by simp [ZoneEvents.calm]) ..
  · exact ⟨.refl _, by simp [ZoneEvents.calm]⟩

/-! ### The boat blocks -/

theorem quiet_putBoat (t : Tube) (b : BoatRec) (c : Ctx) : Quiet c.s (putBoat t b c) := by
  refine ⟨sameHeat_setBoat .., ?_⟩
  unfold putBoat
  dsimp only
  split <;> simp [ZoneEvents.calm]

theorem quiet_stallBoat (t : Tube) (b : BoatRec) (l : Nat) (c : Ctx) : Quiet c.s (stallBoat t b l c) :=
  ⟨sameHeat_setBoat .., by simp [stallBoat, ZoneEvents.calm]⟩

theorem quiet_taskBoatReport (t : Tube) (c : Ctx) : Quiet c.s (taskBoatReport t c) := by
  refine ⟨sameHeat_setRun rfl rfl, ?_⟩
  unfold taskBoatReport
  dsimp only
  split <;> simp [ZoneEvents.calm]

theorem quiet_taskMoveRequest (t : Tube) (x v : Nat) (c : Ctx) : Quiet c.s (taskMoveRequest t x v c) := by
  unfold taskMoveRequest
  dsimp only
  split
  · exact ⟨(quiet_putBoat t _ c).same, by simp [ZoneEvents.calm]⟩
  · exact quiet_putBoat ..

theorem quiet_taskMoveStart (t : Tube) (c : Ctx) : Quiet c.s (taskMoveStart t c) := by
  unfold taskMoveStart
  dsimp only
  split
  · exact quiet_putBoat ..
  · exact .none c

theorem quiet_taskSettleTimeout (t : Tube) (c : Ctx) : Quiet c.s (taskSettleTimeout t c) := by
  unfold taskSettleTimeout
  dsimp only
  split
  · exact quiet_stallBoat ..
  · exact .none c

theorem quiet_taskShutterTimeout (t : Tube) (c : Ctx) : Quiet c.s (taskShutterTimeout t c) := by
  unfold taskShutterTimeout
  dsimp only
  split
  · exact ⟨sameHeat_setBoat .., by simp [ZoneEvents.calm]⟩
  · exact .none c

theorem quiet_positionArrival (t : Tube) (v : Nat) (c : Ctx) : Quiet c.s (positionArrival t v c) := by
  unfold positionArrival
  dsimp only
  split
  · split <;> exact quiet_putBoat ..
  · split
    case h_2 =>
      split
      · exact quiet_stallBoat ..
      · exact quiet_putBoat ..
    all_goals exact quiet_putBoat ..

theorem quiet_motionTick (t : Tube) (c : Ctx) : Quiet c.s (motionTick t c) := by
  unfold motionTick
  dsimp only
  split
  · split
    · exact quiet_stallBoat ..
    · exact quiet_putBoat ..
  · obtain ⟨hsame, hcalm⟩ := quiet_putBoat t (c.s.boat.get t).countPhase.judgeSettle c
    refine ⟨hsame, fun k hk => ?_⟩
    obtain hk | hk := List.mem_append.1 hk
    · exact hcalm k hk
    · rw [List.mem_singleton.1 hk]
      rfl
  · exact ⟨sameHeat_setBoat .., by simp [ZoneEvents.calm]⟩
  · exact ⟨sameHeat_setBoat .., by simp [ZoneEvents.calm]⟩
  · exact .none c

theorem quiet_openLimitEdge (t : Tube) (rising : Bool) (c : Ctx) : Quiet c.s (openLimitEdge t rising c) := by
  refine .after (c := c.put { c.s with lines := { c.s.lines with openLimit := c.s.lines.openLimit.set t rising } })
    (sameHeat_lines ..) ?_
  unfold openLimitEdge
  dsimp only
  split
  · split <;> exact quiet_putBoat ..
  · exact quiet_putBoat ..

theorem quiet_closedLimitEdge (t : Tube) (rising : Bool) (c : Ctx) : Quiet c.s (closedLimitEdge t rising c) := by
  refine .after (c := c.put { c.s with lines := { c.s.lines with closedLimit := c.s.lines.closedLimit.set t rising } })
    (sameHeat_lines ..) ?_
  unfold closedLimitEdge
  dsimp only
  split
  · split <;> exact quiet_putBoat ..
  · exact quiet_putBoat ..

theorem quiet_flowReadback (t : Tube) (l : GasLine) (g : Gas) (c : Ctx) : Quiet c.s (flowReadback t l g c) := by
  refine .after (c := c.put (c.s.setGas g)) (sameHeat_setGas ..) ?_
  unfold flowReadback
  dsimp only
  split
  · exact quiet_putBoat ..
  · exact .none _

/-! ### Messages that write the zones or change a run state -/

theorem eased_taskStepEnd (t : Tube) (c : Ctx) : Eased c.s (taskStepEnd t c).1.s := by
  unfold taskStepEnd
  dsimp only
  split
  · split <;> exact .refl _
  · exact .refl _

theorem eased_applyStep (s : State) (t : Tube) (st : Step) : Eased s (s.applyStep t st) := by
  have hbank : ∀ s : State, Eased s (match st.bank with | some b => s.setBank t b | none => s) := by
    intro s
    split
    · exact eased_setBank ..
    · exact .refl s
  have htargets : ∀ s : State, Eased s (match st.targets with | some l => s.retarget t l | none => s) := by
    intro s
    split
    · exact eased_retarget ..
    · exact .refl s
  exact .after_same (.trans (hbank _) (.trans (eased_handOver _ t) (htargets _))) (sameHeat_setRun rfl rfl)

theorem eased_taskEnter (t : Tube) (l : ListSel) (i : Nat) (c : Ctx) : Eased c.s (taskEnter t l i c).1.s := by
  have hplace : SameHeat c.s (c.s.setRun t { c.s.run.get t with list := l, step := i }) := sameHeat_setRun rfl rfl
  unfold taskEnter
  dsimp only
  split
  · exact .trans hplace.eased (eased_applyStep ..)
  · exact hplace.eased

theorem eased_taskEntryFinish (t : Tube) (c : Ctx) : Eased c.s (taskEntryFinish t c).1.s := by
  have hplace : Eased c.s ((c.s.setRun t { c.s.run.get t with timer := 0, timeoutRaised := false }).setThermal t
      (c.s.thermal.get t).zeroCounter) :=
    .after_same (eased_zeroCounter _ t) (sameHeat_setRun rfl rfl)
  unfold taskEntryFinish
  dsimp only
  split
  · exact .trans hplace (sameHeat_notice (c.put _) _).eased
  · exact hplace

theorem sameHeat_dropRun (s : State) (t : Tube) (st : Store) : SameHeat s ((s.setStore st).setRun t
    { (s.setStore st).run.get t with recipe := none, holdHost := false, holdFault := false }) :=
  (sameHeat_setStore s st).trans (sameHeat_setRun rfl rfl)

theorem eased_closeRun (c : Ctx) (t : Tube) (result : RunResult) : Eased c.s (c.closeRun t result).s := by
  unfold Ctx.closeRun
  dsimp only
  split
  · exact ((sameHeat_notice ..).trans (sameHeat_dropRun ..)).eased
  · exact .refl _

theorem eased_taskEndRun (t : Tube) (r : RunResult) (k : Cause) (c : Ctx) : Eased c.s (taskEndRun t r k c).1.s :=
  .trans (eased_closeRun ..) (eased_changeState _ _ _ (by decide))

theorem eased_taskIdle (t : Tube) (c : Ctx) : Eased c.s (taskIdle t c).1.s := by
  have hover : Eased c.s ((c.s.setRun t { c.s.run.get t with
      mask := 0, params := (c.s.tubeConfig t).idleParams }).handOver t) :=
    .after_same (eased_handOver _ t) (sameHeat_setRun rfl rfl)
  refine hover.trans ?_
  unfold taskIdle
  dsimp only
  split
  · exact eased_setInhibit ..
  · exact eased_retarget ..

theorem eased_taskEnterHolding (t : Tube) (k : Cause) (c : Ctx) : Eased c.s (taskEnterHolding t k c).1.s :=
  eased_changeState _ _ _ (by decide)

theorem eased_taskLeaveHolding (t : Tube) (c : Ctx) : Eased c.s (taskLeaveHolding t c).1.s :=
  .after_same (eased_changeState (c.put _) t .resume (by decide)) (sameHeat_setRun rfl rfl)

theorem eased_taskAbortFinish (t : Tube) (k : Cause) (c : Ctx) : Eased c.s (taskAbortFinish t k c).1.s := by
  refine .trans (sameHeat_setRun (t := t)
    (r := { c.s.run.get t with mask := 0, holdHost := false, holdFault := false }) rfl rfl).eased ?_
  unfold taskAbortFinish
  dsimp only
  split
  · split
    · exact .refl _
    · exact eased_changeState (c.put _) _ _ (by decide)
  · exact .refl _

theorem eased_taskEnterSafe (t : Tube) (k : Cause) (c : Ctx) : Eased c.s (taskEnterSafe t k c).1.s :=
  .after_same (eased_stopRamps _ t) (sameHeat_setRun rfl rfl)

theorem eased_taskSafeFinish (t : Tube) (k : Cause) (c : Ctx) : Eased c.s (taskSafeFinish t k c).1.s :=
  .trans (eased_closeRun ..) (eased_changeState _ _ _ (by decide))

/-- A fault action at most marks a hold reason before its messages (R27). -/
theorem sameHeat_taskAction (t : Tube) (a : Applied) (k : FaultKind) (c : Ctx) :
    SameHeat c.s (taskAction t a k c).1.s := by
  unfold taskAction
  dsimp only
  split
  case h_1 | h_2 => exact sameHeat_setRun rfl rfl
  all_goals exact .refl _

theorem eased_taskDetect (d : Detection) (c : Ctx) : Eased c.s (taskDetect d c).1.s := by
  unfold taskDetect
  dsimp only
  split
  · exact .refl _
  next ap _ =>
    refine .trans ?_ (quiet_handAction ..).same.eased
    have hfault : ∀ f, Eased c.s (if d.kind.inhibits ∧ ap = .safe then (c.s.setFaults f).setInhibit d.tube .fault
        else c.s.setFaults f) := by
      intro f
      split
      · exact .trans (sameHeat_setFaults ..).eased (eased_setInhibit ..)
      · exact (sameHeat_setFaults ..).eased
    split
    · exact hfault _
    · exact .trans (hfault _) (sameHeat_notice (c.put _) _).eased

theorem eased_taskRampStalled (t : Tube) (c : Ctx) : Eased c.s (taskRampStalled t c).1.s := by
  unfold taskRampStalled
  dsimp only
  split
  · exact eased_setThermal_sameZones rfl rfl rfl
  · exact .refl _

theorem eased_taskCommissionTube (t : Tube) (c : Ctx) : Eased c.s (taskCommissionTube t c).1.s :=
  .trans (eased_seed c.s t) (.trans (eased_setBank ..) (eased_changeState (c.put _) _ _ (by decide)))

theorem eased_taskEvaluate (t : Tube) (c : Ctx) : Eased c.s (taskEvaluate t c).1.s := by
  unfold taskEvaluate
  dsimp only
  split <;> exact .refl _

theorem eased_taskStepElapsed (t : Tube) (c : Ctx) : Eased c.s (taskStepElapsed t c).1.s := by
  unfold taskStepElapsed
  dsimp only
  split <;> exact .refl _

/-! ### Every message -/

/-- Whatever a message does, it eases the zones: it keeps both invariants, the samples and their conditions, and raises
no demand. -/
theorem handle_eased (k : Task) (c : Ctx) : Eased c.s (handle k c).1.s := by
  cases k with
  | evaluate t => exact eased_taskEvaluate t c
  | stepEnd t => exact eased_taskStepEnd t c
  | enter t l i => exact eased_taskEnter t l i c
  | entryGas t f => exact (quiet_taskEntryGas t f c).same.eased
  | entryMove t x v => exact (quiet_taskEntryMove t x v c).same.eased
  | entryFinish t => exact eased_taskEntryFinish t c
  | release t => exact (quiet_taskRelease t c).same.eased
  | endRun t r k => exact eased_taskEndRun t r k c
  | idle t => exact eased_taskIdle t c
  | enterHolding t k => exact eased_taskEnterHolding t k c
  | leaveHolding t => exact eased_taskLeaveHolding t c
  | abort t k => exact .refl c.s
  | abortFinish t k => exact eased_taskAbortFinish t k c
  | enterSafe t k => exact eased_taskEnterSafe t k c
  | safeFinish t k => exact eased_taskSafeFinish t k c
  | action t a k => exact (sameHeat_taskAction t a k c).eased
  | stepElapsed t => exact eased_taskStepElapsed t c
  | stepTimeout t => exact (quiet_taskStepTimeout t c).same.eased
  | detect d => exact eased_taskDetect d c
  | bankDetect l => exact (quiet_taskBankDetect l c).same.eased
  | shedDetect m l => exact (quiet_taskShedDetect m l c).same.eased
  | shedActed t a l rs q p => exact (quiet_taskShedActed t a l rs q p c).same.eased
  | judgeSamples t z => exact eased_judgeSamples t z c
  | rampStalled t => exact eased_taskRampStalled t c
  | tempReport t v => exact (quiet_taskTempReport t v c).same.eased
  | powerStarved t z => exact (quiet_taskPowerStarved t z c).same.eased
  | headerWait t => exact (quiet_taskHeaderWait t c).same.eased
  | flowDeviation t l => exact (quiet_taskFlowDeviation t l c).same.eased
  | examine => exact (quiet_taskExamine c).same.eased
  | gasRequest t f => exact (quiet_taskGasRequest t f c).same.eased
  | recompute t w => exact (quiet_taskRecompute t w c).same.eased
  | withdraw t => exact (quiet_taskWithdraw t c).same.eased
  | safeFlow t => exact (quiet_taskSafeFlow t c).same.eased
  | atmReport t => exact (quiet_taskAtmReport t c).same.eased
  | atmTick t => exact (quiet_taskAtmTick t c).same.eased
  | purgeComplete t => exact (quiet_taskPurgeComplete t c).same.eased
  | purgeIncomplete t => exact (quiet_taskPurgeIncomplete t c).same.eased
  | ignitionTest t => exact (quiet_taskIgnitionTest t c).same.eased
  | ignitionFailed t => exact (quiet_taskIgnitionFailed t c).same.eased
  | postFlowEnd t => exact (quiet_taskPostFlowEnd t c).same.eased
  | moveRequest t x v => exact (quiet_taskMoveRequest t x v c).same.eased
  | moveStart t => exact (quiet_taskMoveStart t c).same.eased
  | boatStop t => exact (quiet_putBoat t _ c).same.eased
  | boatHold t on => exact (quiet_putBoat t _ c).same.eased
  | boatRelease t => exact (quiet_putBoat t _ c).same.eased
  | boatReport t => exact (quiet_taskBoatReport t c).same.eased
  | settleTimeout t => exact (quiet_taskSettleTimeout t c).same.eased
  | shutterTimeout t => exact (quiet_taskShutterTimeout t c).same.eased
  | commissionTube t => exact eased_taskCommissionTube t c

/-- The chain of messages of an event eases the zones. -/
theorem runTasks_eased (n : Nat) (ks : List Task) (c : Ctx) : Eased c.s (runTasks n ks c).s :=
  runTasks_keeps (P := fun m => Eased c.s m.s) (fun k m h => h.trans (handle_eased k m)) n ks c (.refl c.s)

end

end Sys2Proof.ZoneEvents

/-! SUPPORT. The work that begins an event of the thermal blocks and of the allocator: the arrival of a sample, the thermal
tick and the allocation pass keep the invariants of the zones (R48, R53, R60 to R63, R75 to R82). -/

namespace Sys2Proof.ZoneWork

open Sys2Proof.Machine Sys2Proof.ZoneRules Sys2Proof.ZoneInvariants

/-! ### The ramp generator (R53, R57 to R59) -/

theorem advance_of_near {z : ZoneRec} {r : Nat} (h : Sys2Proof.dist z.target z.setpoint ≤ (z.remainder + 100 * r) / 60) :
    z.advance r = { z with setpoint := z.target, complete := true, remainder := 0 } := by
  simp only [ZoneRec.advance]
  rw [if_pos h]

theorem advance_of_far {z : ZoneRec} {r : Nat}
    (h : ¬ Sys2Proof.dist z.target z.setpoint ≤ (z.remainder + 100 * r) / 60) :
    z.advance r = { z with
      setpoint := if z.setpoint < z.target then z.setpoint + (z.remainder + 100 * r) / 60
                  else z.setpoint - (z.remainder + 100 * r) / 60
      remainder := (z.remainder + 100 * r) % 60 } := by
  simp only [ZoneRec.advance]
  rw [if_neg h]

/-- An advance takes the setpoint toward the target and not beyond it. -/
theorem advance_rampSound {z : ZoneRec} (h : z.rampSound) (r : Nat) : (z.advance r).rampSound := by
  obtain ⟨hcomplete, -, hbetween⟩ := h
  by_cases hnear : Sys2Proof.dist z.target z.setpoint ≤ (z.remainder + 100 * r) / 60
  · rw [advance_of_near hnear]
    refine ⟨by simp, by simp, ?_⟩
    dsimp only
    omega
  · rw [advance_of_far hnear]
    have hshort : (z.remainder + 100 * r) / 60 < Sys2Proof.dist z.target z.setpoint := Nat.lt_of_not_le hnear
    generalize (z.remainder + 100 * r) / 60 = step at hshort
    simp only [ZoneRec.rampSound, hcomplete]
    simp only [Sys2Proof.dist] at hshort
    split at hshort <;> split <;> omega

theorem zoneEased_advance (cfg : TubeConfig) (z : ZoneRec) (r : Nat) : ZoneEased cfg z (z.advance r) := by
  by_cases hnear : Sys2Proof.dist z.target z.setpoint ≤ (z.remainder + 100 * r) / 60
  · have heq := advance_of_near hnear
    exact ⟨by rw [heq], by rw [heq], by rw [heq], (advance_rampSound · r), by rw [heq]; exact id⟩
  · have heq := advance_of_far hnear
    exact ⟨by rw [heq], by rw [heq], by rw [heq], (advance_rampSound · r), by rw [heq]; exact id⟩

theorem advance_demand (z : ZoneRec) (r : Nat) : (z.advance r).demand = z.demand := by
  unfold ZoneRec.advance
  dsimp only
  split <;> rfl

/-- The zones after the ramp work of a tick: those that advance have advanced, the others stand. -/
theorem advanceRamps_zone (r : ThermalRec) (n : Nat) (starved : Zone → Bool) (z : Zone) :
    (r.advanceRamps n starved).zones.get z =
      if z.number ≤ n ∧ r.advances n starved z = true then (r.zones.get z).advance r.params.rate else r.zones.get z := by
  have hzone := mapActive_zone r n
    (fun z zr => if r.advances n starved z then zr.advance r.params.rate else zr) z
  refine hzone.trans ?_
  by_cases hn : z.number ≤ n <;> by_cases ha : r.advances n starved z = true <;> simp [hn, ha]

theorem advanceRamps_frame (r : ThermalRec) (n : Nat) (starved : Zone → Bool) :
    (r.advanceRamps n starved).runState = r.runState ∧ (r.advanceRamps n starved).inhibit = r.inhibit ∧
      (r.advanceRamps n starved).params = r.params := by
  have hframe := mapActive_frame r n (fun z zr => if r.advances n starved z then zr.advance r.params.rate else zr)
  simp only [ThermalRec.advanceRamps]
  rw [hframe]
  exact ⟨rfl, rfl, rfl⟩

theorem eased_advanceRamps (s : State) (t : Tube) (n : Nat) (starved : Zone → Bool) :
    Eased s (s.setThermal t ((s.thermal.get t).advanceRamps n starved)) := by
  obtain ⟨hstate, hinhibit, -⟩ := advanceRamps_frame (s.thermal.get t) n starved
  refine eased_setThermal hstate (by rw [hinhibit]; exact id) (fun z => ?_) (fun z => ?_)
  · rw [advanceRamps_zone]
    split
    · exact zoneEased_advance ..
    · exact .refl _ _
  · rw [advanceRamps_zone]
    split
    · exact advance_demand ..
    · rfl

/-! ### PI control (R61 to R63) -/

theorem piDemand_le (k : Tuning) (e : Int) (i : Nat) : piDemand k e i ≤ k.lmax := by
  unfold piDemand
  omega

/-- A zone as step 4 of the tick leaves it, `k` being its constants (R60 to R63). -/
def controlled (inhibit : Inhibit) (k : Tuning) (p : ZoneRec × AllocZone) : ZoneRec × AllocZone :=
  let shut := ({ p.1 with demand := 0 }, { p.2 with firing := 0 })
  match p.1.profile with
  | .temp pv =>
    if inhibit = .clear then
      let e := piError p.1.sp pv
      let d := piDemand k e p.1.integral
      ({ p.1 with demand := d, integral := piIntegral k e p.1.integral }, { p.2 with firing := min p.2.firing d })
    else shut
  | _ => shut

theorem zonesOnly_controlZone (s : State) (t : Tube) (z : Zone) : ZonesOnly t s (s.controlZone t z) := by
  unfold State.controlZone
  dsimp only
  split
  · split
    · exact (zonesOnly_setZone s t z _).trans (zonesOnly_publishDemand ..)
    · exact zonesOnly_publishDemand ..
  · exact zonesOnly_publishDemand ..

theorem heater_controlZone_same (s : State) (t : Tube) (z : Zone) : heater (s.controlZone t z) t z =
    controlled (s.thermal.get t).inhibit (s.tuning t z) (heater s t z) := by
  have hshut := heater_publishDemand_same s t z 0
  rw [Nat.min_zero] at hshut
  unfold State.controlZone controlled
  cases hp : ((s.thermal.get t).zones.get z).profile with
  | temp pv =>
    simp only [heater, hp] at hshut ⊢
    by_cases hi : (s.thermal.get t).inhibit = .clear
    · rw [if_pos hi, if_pos hi]
      exact (heater_publishDemand_same _ t z _).trans (by rw [heater_setZone_same])
    · rw [if_neg hi, if_neg hi]
      exact hshut
  | absent | isOpen =>
    simp only [heater, hp] at hshut ⊢
    exact hshut

theorem heater_controlZone_other (s : State) (t : Tube) {z y : Zone} (h : y ≠ z) :
    heater (s.controlZone t z) t y = heater s t y := by
  unfold State.controlZone
  dsimp only
  split
  · split
    · rw [heater_publishDemand_other _ t h, heater_setZone_other _ t h]
    · exact heater_publishDemand_other s t h 0
  · exact heater_publishDemand_other s t h 0

/-- The control of every active zone of a tube. -/
def controlZones (s : State) (t : Tube) : State :=
  (activeZones (s.tubeConfig t).activeZones).foldl (fun s z => s.controlZone t z) s

theorem zonesOnly_controlZones (s : State) (t : Tube) : ZonesOnly t s (controlZones s t) :=
  .foldl (fun s z => zonesOnly_controlZone s t z) _ s

theorem heater_controlZones (s : State) (t : Tube) (z : Zone) : heater (controlZones s t) t z =
    if z.number ≤ (s.tubeConfig t).activeZones then
      controlled (s.thermal.get t).inhibit (s.tuning t z) (heater s t z)
    else heater s t z := by
  have hfold := foldl_at (I := ZonesOnly t s) (get := fun s => heater s t) (f := fun s z => s.controlZone t z)
    (h := fun z => controlled (s.thermal.get t).inhibit (s.tuning t z))
    (fun n z hn => hn.trans (zonesOnly_controlZone n t z))
    (fun n z hn => by rw [heater_controlZone_same, hn.tuning, hn.blocks t])
    (fun n z y _ hy => heater_controlZone_other n t hy)
    (nodup_activeZones (s.tubeConfig t).activeZones) s (.refl t s)
  simpa only [controlZones, mem_activeZones] using hfold.2 z

/-- What control does to one zone, whatever it was before. -/
theorem controlled_spec (inhibit : Inhibit) (k : Tuning) (p : ZoneRec × AllocZone) :
    (controlled inhibit k p).2.firing ≤ (controlled inhibit k p).1.demand ∧
      (controlled inhibit k p).1.demand ≤ k.lmax ∧
      (inhibit ≠ .clear → (controlled inhibit k p).1.demand = 0) ∧
      (p.1.rampSound → (controlled inhibit k p).1.rampSound) := by
  have hshut : (0 : Nat) ≤ 0 ∧ 0 ≤ k.lmax ∧ (inhibit ≠ .clear → 0 = 0) ∧ (p.1.rampSound → p.1.rampSound) :=
    ⟨le_rfl, Nat.zero_le _, fun _ => rfl, id⟩
  unfold controlled
  dsimp only
  split
  · split
    next hi => exact ⟨Nat.min_le_right _ _, piDemand_le .., fun h => absurd hi h, id⟩
    next => exact hshut
  · exact hshut

/-- Control keeps the invariants of the zones outside OFFLINE. -/
theorem kept_controlZones {s : State} {t : Tube} (hon : (s.thermal.get t).runState ≠ .offline) :
    Kept s (controlZones s t) := by
  have honly := zonesOnly_controlZones s t
  have hzone := heater_controlZones s t
  refine ⟨honly.config, fun h u z => ?_, fun h => ⟨fun u => ?_, fun u z => ?_⟩⟩
  · show (heater (controlZones s t) u z).1.rampSound
    by_cases hu : u = t
    · subst hu
      rw [hzone]
      split
      · exact (controlled_spec _ _ _).2.2.2 (h u z)
      · exact h u z
    · rw [honly.others u hu]
      exact h u z
  · rw [honly.blocks, honly.runState]
    exact h.1 u
  · have hinhibit : ((controlZones s t).thermal.get u).inhibit = (s.thermal.get u).inhibit := by rw [honly.blocks]
    by_cases hu : u = t
    · subst hu
      by_cases hz : z.number ≤ (s.tubeConfig u).activeZones
      · obtain ⟨hf, hd, hoff, -⟩ := controlled_spec (s.thermal.get u).inhibit (s.tuning u z) (heater s u z)
        have heq := (hzone z).trans (if_pos hz)
        refine ⟨heq ▸ hf, by rw [heq, honly.tuning]; exact hd, fun hshut => ?_⟩
        rw [hinhibit, honly.runState, ← h.1 u, honly.tubeConfig] at hshut
        obtain hshut | hshut | hshut := hshut
        · exact absurd hshut hon
        · rw [heq]
          exact hoff hshut
        · omega
      · exact (zoneHeld_congr ((hzone z).trans (if_neg hz)) (honly.tuning u z) (honly.runState u) hinhibit
          (honly.tubeConfig u)).2 (h.2 u z)
    · exact (zoneHeld_congr (honly.others u hu z) (honly.tuning u z) (honly.runState u) hinhibit
        (honly.tubeConfig u)).2 (h.2 u z)

/-! ### The thermal tick (R60) -/

/-- The zones of a tube judged for DEVIATION. -/
def judgeDeviation (s : State) (t : Tube) : State :=
  s.setThermal t ((s.thermal.get t).mapActive (s.tubeConfig t).activeZones fun _ zr =>
    { zr with deviation := zr.deviationHolds (s.thermal.get t).runState (s.tubeConfig t) })

/-- The ramp work of a tick. -/
def advanceAll (s : State) (t : Tube) : State :=
  s.setThermal t ((s.thermal.get t).advanceRamps (s.tubeConfig t).activeZones fun z => (s.alloc.zone t z).starved)

/-- The state after a thermal tick's own work: ramps, control, DEVIATION. -/
theorem thermalTickStart_s {c : Ctx} {t : Tube} (h : (c.s.thermal.get t).runState ≠ .offline) :
    (thermalTickStart t c).1.s = judgeDeviation (controlZones (advanceAll c.s t) t) t := by
  have hconfig : (controlZones (advanceAll c.s t) t).tubeConfig t = c.s.tubeConfig t :=
    (zonesOnly_controlZones (advanceAll c.s t) t).tubeConfig t
  unfold thermalTickStart
  rw [judgeDeviation, hconfig]
  dsimp only
  rw [if_neg h]
  rfl

theorem thermalTickStart_offline {c : Ctx} {t : Tube} (h : (c.s.thermal.get t).runState = .offline) :
    thermalTickStart t c = (c, []) := by
  unfold thermalTickStart
  dsimp only
  rw [if_pos h]

theorem kept_thermalTickStart (t : Tube) (c : Ctx) : Kept c.s (thermalTickStart t c).1.s := by
  by_cases h : (c.s.thermal.get t).runState = .offline
  · rw [thermalTickStart_offline h]
    exact .refl _
  · rw [thermalTickStart_s h]
    have hramps : Kept c.s (advanceAll c.s t) := (eased_advanceRamps ..).toKept
    have hstate : ((advanceAll c.s t).thermal.get t).runState = (c.s.thermal.get t).runState := by
      rw [advanceAll, State.setThermal_thermal, PerTube.get_set_same]
      exact (advanceRamps_frame _ _ _).1
    have hcontrol : Kept (advanceAll c.s t) (controlZones (advanceAll c.s t) t) := kept_controlZones (by rwa [hstate])
    have hdeviation : Kept (controlZones (advanceAll c.s t) t) (judgeDeviation (controlZones (advanceAll c.s t) t) t) := by
      refine (eased_mapActive (fun _ _ => ?_) fun _ _ => ?_).toKept
      · exact ⟨rfl, rfl, le_rfl, id, id⟩
      · rfl
    exact (hramps.trans hcontrol).trans hdeviation

/-! ### The arrival of a sample (R48, R49) -/

theorem kept_publishZero (s : State) (t : Tube) (z : Zone) : Kept s (s.publishDemand t z 0) := by
  have honly := zonesOnly_publishDemand s t z 0
  have hsame := heater_publishDemand_same s t z 0
  have hother : ∀ u y, ¬ (u = t ∧ y = z) → heater (s.publishDemand t z 0) u y = heater s u y := by
    intro u y hy
    by_cases hu : u = t
    · subst hu
      exact heater_publishDemand_other s u (fun e => hy ⟨rfl, e⟩) 0
    · exact honly.others u hu y
  refine ⟨honly.config, fun h u y => ?_, fun h => ⟨fun u => ?_, fun u y => ?_⟩⟩
  · show (heater (s.publishDemand t z 0) u y).1.rampSound
    by_cases hy : u = t ∧ y = z
    · obtain ⟨rfl, rfl⟩ := hy
      rw [hsame]
      exact h u y
    · rw [hother u y hy]
      exact h u y
  · rw [honly.blocks, honly.runState]
    exact h.1 u
  · by_cases hy : u = t ∧ y = z
    · obtain ⟨rfl, rfl⟩ := hy
      exact zoneHeld_of_zero (by rw [hsame]) (by rw [hsame]; exact Nat.min_le_right _ _)
    · exact (zoneHeld_congr (hother u y hy) (honly.tuning u y) (honly.runState u) (by rw [honly.blocks])
        (honly.tubeConfig u)).2 (h.2 u y)

/-- A sample written into a zone record. -/
theorem kept_writeSampleRec (s : State) (t : Tube) (z : Zone) (tc : Thermocouple) (v : Sample) :
    Kept s (s.setThermal t ((s.thermal.get t).setZone z (((s.thermal.get t).zones.get z).writeSample tc v))) := by
  refine ⟨rfl, fun h u y => ?_, heatersHeld_setThermal rfl id fun y => ?_⟩
  · by_cases hu : u = t
    · subst hu
      by_cases hy : y = z
      · subst hy
        have hold := h u y
        cases tc <;> simpa [ThermalRec.setZone, ZoneRec.writeSample, ZoneRec.rampSound] using hold
      · simpa [ThermalRec.setZone, PerZone.get_set_other _ hy] using h u y
    · simpa [PerTube.get_set_other _ hu] using h u y
  · by_cases hy : y = z
    · subst hy
      cases tc <;> simp [ThermalRec.setZone, ZoneRec.writeSample]
    · simp [ThermalRec.setZone, PerZone.get_set_other _ hy]

theorem kept_writeSample (s : State) (t : Tube) (z : Zone) (tc : Thermocouple) (v : Sample) :
    Kept s (s.writeSample t z tc v) := by
  have hrec := kept_writeSampleRec s t z tc v
  unfold State.writeSample
  dsimp only
  split
  · exact hrec.trans (kept_publishZero ..)
  · exact hrec

/-! ### The allocation pass (R75 to R82) -/

theorem mem_bankPositions (p : Tube × Zone) : p ∈ bankPositions := by
  obtain ⟨t, z⟩ := p
  cases t <;> cases z <;> decide

theorem nodup_bankPositions : bankPositions.Nodup := by decide

/-- A change to every zone position changes each of them. -/
theorem mapZones_zone (a : Alloc) (f : Tube → Zone → AllocZone → AllocZone) (t : Tube) (z : Zone) :
    (a.mapZones f).zone t z = f t z (a.zone t z) := by
  have hfold := foldl_at (I := fun _ => True) (get := fun (a : Alloc) (p : Tube × Zone) => a.zone p.1 p.2)
    (f := fun a p => a.setZone p.1 p.2 (f p.1 p.2 (a.zone p.1 p.2))) (h := fun p => f p.1 p.2) (fun _ _ _ => trivial)
    (fun a p _ => alloc_setZone_same ..)
    (fun a p q _ hq => alloc_setZone_other a (fun e => hq (Prod.ext e.1 e.2)) _) nodup_bankPositions a trivial
  have hzone := hfold.2 (t, z)
  rwa [if_pos (mem_bankPositions _)] at hzone

/-- Only the grants of the zones differ. -/
def grantsOnly (a b : Alloc) : Prop := ∀ t z, b.zone t z = { a.zone t z with grant := (b.zone t z).grant }

theorem grantsOnly.trans {a b d : Alloc} (h : grantsOnly a b) (g : grantsOnly b d) : grantsOnly a d := fun t z => by
  rw [g t z, h t z]

theorem grantsOnly_mapZones {a : Alloc} {f : Tube → Zone → AllocZone → AllocZone}
    (hf : ∀ t z v, f t z v = { v with grant := (f t z v).grant }) : grantsOnly a (a.mapZones f) := fun t z => by
  rw [mapZones_zone]
  exact hf t z _

theorem grantsOnly_handOut (k : PowerClass) (ps : List (Tube × Zone)) (n : Nat) (a : Alloc) :
    grantsOnly a (handOut k ps n a) := by
  induction ps generalizing n a with
  | nil => exact fun _ _ => rfl
  | cons p ps ih =>
    cases n with
    | zero => exact fun _ _ => rfl
    | succ n =>
      unfold handOut
      dsimp only
      split
      · refine .trans (fun t z => ?_) (ih n _)
        by_cases hp : t = p.1 ∧ z = p.2
        · obtain ⟨rfl, rfl⟩ := hp
          rw [alloc_setZone_same]
        · rw [alloc_setZone_other a hp]
      · exact ih (n + 1) a

theorem grantsOnly.of_zones {a b d : Alloc} (h : grantsOnly a b) (hd : d.zones = b.zones) : grantsOnly a d := fun t z => by
  simp only [Alloc.zone, hd]
  exact h t z

theorem grantsOnly_serve (a : Alloc) (k : PowerClass) (r : Nat) : grantsOnly a (a.serve k r).1 := by
  have hclass : ∀ f : AllocZone → Nat,
      grantsOnly a (a.mapZones fun _ _ z => if z.inClass k then { z with grant := f z } else z) :=
    fun f => grantsOnly_mapZones fun t z v => by split <;> rfl
  unfold Alloc.serve
  dsimp only
  split
  · exact (hclass fun z => z.watts).of_zones rfl
  · exact ((hclass _).trans (grantsOnly_handOut _ _ _ _)).of_zones rfl

/-- What a zone takes from its grant never exceeds its demand (R80). -/
theorem settle_firing_le {az : AllocZone} {demand rating limit : Nat} (hpart : az.part = true → az.watts = rating * demand / 10)
    (hout : az.part = false → az.firing = 0) : (az.settle demand rating limit).firing ≤ demand := by
  unfold AllocZone.settle
  cases hp : az.part with
  | false => simp [hout hp]
  | true =>
    have hwatts := hpart hp
    by_cases hstarved : az.grant < az.watts
    · have hless : az.grant * 10 ≤ rating * demand := by omega
      simpa [hstarved] using Nat.div_le_of_le_mul hless
    · simp only [if_true, hstarved, decide_false, Bool.false_eq_true, if_false]
      split <;> omega

/-- A pass enrols the zones, hands out grants, and settles every zone (R76 to R82). -/
theorem allocate_spec (s : State) : ∃ a,
    grantsOnly (s.alloc.mapZones s.enrol) a ∧
    s.allocate = s.setAlloc (a.mapZones fun t z az => az.settle ((s.thermal.get t).zones.get z).demand
      ((s.tubeConfig t).rating z) (s.tubeConfig t).starveLimit) := by
  unfold State.allocate
  dsimp only
  have h0 : grantsOnly (s.alloc.mapZones s.enrol)
      { s.alloc.mapZones s.enrol with effective := s.effectiveBudget } :=
    grantsOnly.of_zones (fun _ _ => rfl) rfl
  generalize ({ s.alloc.mapZones s.enrol with effective := s.effectiveBudget } : Alloc) = a0 at h0
  have h1 := grantsOnly_serve a0 .soak s.effectiveBudget
  generalize a0.serve .soak s.effectiveBudget = p1 at h1
  obtain ⟨a1, r1⟩ := p1
  dsimp only at h1 ⊢
  have h2 := grantsOnly_serve a1 .ramp r1
  generalize a1.serve .ramp r1 = p2 at h2
  obtain ⟨a2, r2⟩ := p2
  have h3 := grantsOnly_serve a2 .other r2
  generalize a2.serve .other r2 = p3 at h3
  obtain ⟨a3, r3⟩ := p3
  exact ⟨a3, ((h0.trans h1).trans h2).trans h3, rfl⟩

/-- What a pass reads of a zone (R76). -/
theorem enrol_spec (s : State) (t : Tube) (z : Zone) (v : AllocZone) :
    ((s.enrol t z v).part = true →
      (s.enrol t z v).watts = (s.tubeConfig t).rating z * ((s.thermal.get t).zones.get z).demand / 10) ∧
    ((s.enrol t z v).part = false → (s.enrol t z v).firing = 0) := by
  unfold State.enrol
  dsimp only
  split
  · exact ⟨fun _ => rfl, fun h => by simp at h⟩
  · exact ⟨fun h => by simp at h, fun _ => rfl⟩

/-- An allocator that leaves no firing above the zone's demand. -/
theorem kept_setAlloc {s : State} {a : Alloc} (h : ∀ t z, (a.zone t z).firing ≤ ((s.thermal.get t).zones.get z).demand) :
    Kept s (s.setAlloc a) :=
  ⟨rfl, id, fun hs => ⟨hs.1, fun t z => ⟨h t z, (hs.2 t z).2⟩⟩⟩

theorem kept_allocate (s : State) : Kept s s.allocate := by
  obtain ⟨a, hgrants, hs⟩ := allocate_spec s
  rw [hs]
  refine kept_setAlloc fun t z => ?_
  have hzone : a.zone t z = { s.enrol t z (s.alloc.zone t z) with grant := (a.zone t z).grant } :=
    (hgrants t z).trans (by rw [mapZones_zone])
  obtain ⟨hpart, hout⟩ := enrol_spec s t z (s.alloc.zone t z)
  rw [mapZones_zone, hzone]
  exact settle_firing_le hpart hout

end Sys2Proof.ZoneWork

/-! SUPPORT. What a command does to the zones: the event of the plant or of a request, each request of the host, the taking of
requests from the line, and so every step keeps the two invariants of the zones (R46, R52, R63, R68, R80, R81, R160). -/

namespace Sys2Proof.ZoneSteps

open Sys2Proof.Machine Sys2Proof.ZoneRules Sys2Proof.ZoneInvariants Sys2Proof.ZoneEvents Sys2Proof.ZoneWork

/-! ### Messages while every tube is OFFLINE (R5) -/

/-- Every tube is OFFLINE, as it is until COMMISSION (R5). -/
def allOffline (s : State) : Prop := ∀ t, s.runState t = .offline

section

variable {s n m : State} {c : Ctx} {t : Tube} {k : Task}

theorem allOffline_of_same (h : SameHeat s n) (hoff : allOffline s) : allOffline n :=
  fun t => (h.run t).1.trans (hoff t)

theorem quiet_offline {r : Ctx × List Task} (q : Quiet c.s r) (hoff : allOffline c.s) :
    allOffline r.1.s ∧ ∀ j ∈ r.2, calm j = true := ⟨allOffline_of_same q.same hoff, q.calm⟩

theorem taskEvaluate_offline (hoff : allOffline c.s) : taskEvaluate t c = (c, []) := by
  have hstate : (c.s.run.get t).state = .offline := hoff t
  unfold taskEvaluate
  dsimp only
  split
  · simp [hstate, RunState.walks]
  · rfl

theorem taskStepElapsed_offline (hoff : allOffline c.s) : taskStepElapsed t c = (c, []) := by
  have hstate : (c.s.run.get t).state = .offline := hoff t
  unfold taskStepElapsed
  dsimp only
  split
  · simp [hstate, RunState.walks]
  · rfl

theorem taskAction_offline {a : Applied} {f : FaultKind} (hoff : allOffline c.s) : taskAction t a f c = (c, []) := by
  have hstate : (c.s.run.get t).state = .offline := hoff t
  cases a <;> simp [taskAction, hstate]

/-- A detection in an OFFLINE tube is not graded (R141). -/
theorem taskDetect_offline {d : Detection} (hoff : allOffline c.s) : taskDetect d c = (c, []) := by
  have hgrade : c.s.gradeIn d.tube d.kind = none := by simp [State.gradeIn, Machine.grade, hoff d.tube]
  simp [taskDetect, hgrade]

theorem rampStalled_tasks_calm (t : Tube) (c : Ctx) : ∀ j ∈ (taskRampStalled t c).2, calm j = true := by
  unfold taskRampStalled
  dsimp only
  split <;> simp [calm]

theorem judgeSamples_tasks_calm (t : Tube) (z : Zone) (c : Ctx) : ∀ j ∈ (taskJudgeSamples t z c).2, calm j = true := by
  intro j hj
  simp only [taskJudgeSamples, zoneDetection, List.mem_append] at hj
  obtain (hj | hj) | hj := hj <;> split at hj
  all_goals first
    | (rw [List.mem_singleton.1 hj]; rfl)
    | simp at hj

theorem taskRampStalled_run (t : Tube) (c : Ctx) : (taskRampStalled t c).1.s.run = c.s.run := by
  unfold taskRampStalled
  dsimp only
  split <;> rfl

/-- While every tube is OFFLINE a calm message leaves it so, and what it gives rise to is calm. -/
theorem handle_offline (hk : calm k = true) (hoff : allOffline c.s) :
    allOffline (handle k c).1.s ∧ ∀ j ∈ (handle k c).2, calm j = true := by
  have hnone : ∀ r : Ctx × List Task, r = (c, []) → allOffline r.1.s ∧ ∀ j ∈ r.2, calm j = true := by
    rintro _ rfl
    exact ⟨hoff, by simp⟩
  cases k with
  | evaluate t => exact hnone _ (taskEvaluate_offline hoff)
  | stepElapsed t => exact hnone _ (taskStepElapsed_offline hoff)
  | action t a f => exact hnone _ (taskAction_offline hoff)
  | detect d => exact hnone _ (taskDetect_offline hoff)
  | judgeSamples t z => exact ⟨hoff, judgeSamples_tasks_calm t z c⟩
  | rampStalled t =>
    refine ⟨fun u => ?_, rampStalled_tasks_calm t c⟩
    exact (congrArg (fun r => (PerTube.get r u).state) (taskRampStalled_run t c)).trans (hoff u)
  | entryGas t f => exact quiet_offline (quiet_taskEntryGas t f c) hoff
  | entryMove t x v => exact quiet_offline (quiet_taskEntryMove t x v c) hoff
  | release t => exact quiet_offline (quiet_taskRelease t c) hoff
  | stepTimeout t => exact quiet_offline (quiet_taskStepTimeout t c) hoff
  | bankDetect l => exact quiet_offline (quiet_taskBankDetect l c) hoff
  | shedDetect m l => exact quiet_offline (quiet_taskShedDetect m l c) hoff
  | shedActed t a l rs q p => exact quiet_offline (quiet_taskShedActed t a l rs q p c) hoff
  | tempReport t v => exact quiet_offline (quiet_taskTempReport t v c) hoff
  | powerStarved t z => exact quiet_offline (quiet_taskPowerStarved t z c) hoff
  | headerWait t => exact quiet_offline (quiet_taskHeaderWait t c) hoff
  | flowDeviation t l => exact quiet_offline (quiet_taskFlowDeviation t l c) hoff
  | examine => exact quiet_offline (quiet_taskExamine c) hoff
  | gasRequest t f => exact quiet_offline (quiet_taskGasRequest t f c) hoff
  | recompute t w => exact quiet_offline (quiet_taskRecompute t w c) hoff
  | withdraw t => exact quiet_offline (quiet_taskWithdraw t c) hoff
  | safeFlow t => exact quiet_offline (quiet_taskSafeFlow t c) hoff
  | atmReport t => exact quiet_offline (quiet_taskAtmReport t c) hoff
  | atmTick t => exact quiet_offline (quiet_taskAtmTick t c) hoff
  | purgeComplete t => exact quiet_offline (quiet_taskPurgeComplete t c) hoff
  | purgeIncomplete t => exact quiet_offline (quiet_taskPurgeIncomplete t c) hoff
  | ignitionTest t => exact quiet_offline (quiet_taskIgnitionTest t c) hoff
  | ignitionFailed t => exact quiet_offline (quiet_taskIgnitionFailed t c) hoff
  | postFlowEnd t => exact quiet_offline (quiet_taskPostFlowEnd t c) hoff
  | moveRequest t x v => exact quiet_offline (quiet_taskMoveRequest t x v c) hoff
  | moveStart t => exact quiet_offline (quiet_taskMoveStart t c) hoff
  | boatStop t => exact quiet_offline (quiet_putBoat t _ c) hoff
  | boatHold t on => exact quiet_offline (quiet_putBoat t _ c) hoff
  | boatRelease t => exact quiet_offline (quiet_putBoat t _ c) hoff
  | boatReport t => exact quiet_offline (quiet_taskBoatReport t c) hoff
  | settleTimeout t => exact quiet_offline (quiet_taskSettleTimeout t c) hoff
  | shutterTimeout t => exact quiet_offline (quiet_taskShutterTimeout t c) hoff
  | stepEnd | enter | entryFinish | endRun | idle | enterHolding | leaveHolding | abort | abortFinish | enterSafe
  | safeFinish | commissionTube => exact absurd hk Bool.false_ne_true

/-! ### Events -/

/-- `n` keeps the two invariants of the zones, the run states before COMMISSION included. -/
structure Preserves (s n : State) : Prop where
  ramps : s.rampsSound → n.rampsSound
  heaters : s.heatersSound → n.heatersSound

theorem Preserves.refl (s : State) : Preserves s s := ⟨id, id⟩

theorem Preserves.trans (h : Preserves s n) (g : Preserves n m) : Preserves s m := ⟨g.ramps ∘ h.ramps, g.heaters ∘ h.heaters⟩

theorem Kept.preserves (h : Kept s n) (hoff : offlineUntilLocked s → offlineUntilLocked n) : Preserves s n where
  ramps := h.ramps
  heaters hs := by
    obtain ⟨hheld, hs⟩ := (heatersSound_iff s).1 hs
    exact (heatersSound_iff n).2 ⟨h.heaters hheld, hoff hs⟩

theorem SameHeat.preserves (h : SameHeat s n) : Preserves s n :=
  Kept.preserves h.kept fun hs hlocked => allOffline_of_same h (hs (h.config ▸ hlocked))

/-- The beginning of an event: it keeps the invariants, and before COMMISSION it changes no run state. -/
structure Begins (s : State) (r : Ctx × List Task) : Prop where
  kept : Kept s r.1.s
  offline : s.config.locked = false → allOffline s → allOffline r.1.s ∧ ∀ k ∈ r.2, calm k = true

theorem Quiet.begins {r : Ctx × List Task} (q : Quiet s r) : Begins s r :=
  ⟨q.same.kept, fun _ hoff => ⟨allOffline_of_same q.same hoff, q.calm⟩⟩

/-- An event that only a tube out of OFFLINE begins. -/
theorem Begins.of_online {r : Ctx × List Task} (h : Kept s r.1.s) (ht : s.runState t ≠ .offline) : Begins s r :=
  ⟨h, fun _ hoff => absurd (hoff t) ht⟩

theorem runTasks_offline {ks : List Task} (hks : ∀ k ∈ ks, calm k = true) (hoff : allOffline c.s) (n : Nat) :
    allOffline (runTasks n ks c).s := by
  obtain ⟨_, hrest, -⟩ := runTasks_keeps_with (P := fun c ks => allOffline c.s ∧ ∀ k ∈ ks, calm k = true)
    (fun k ks c ⟨hoff, hcalm⟩ => by
      obtain ⟨hk, hks⟩ := List.forall_mem_cons.1 hcalm
      obtain ⟨hnext, hnew⟩ := handle_offline hk hoff
      exact ⟨hnext, fun j hj => (List.mem_append.1 hj).elim (hnew j) (hks j)⟩) n ks c ⟨hoff, hks⟩
  exact hrest

/-- A whole event keeps the invariants when its beginning does. -/
theorem preserves_chain {r : Ctx × List Task} (h : Begins s r) (n : Nat) : Preserves s (runTasks n r.2 r.1).s := by
  have hkept := h.kept.trans (runTasks_eased n r.2 r.1).toKept
  refine Kept.preserves hkept fun hs hlocked => ?_
  rw [hkept.config] at hlocked
  obtain ⟨hoff, hcalm⟩ := h.offline hlocked (hs hlocked)
  exact runTasks_offline hcalm hoff n

theorem preserves_event {first : Ctx → Ctx × List Task} (h : Begins s (first (Ctx.start s false))) :
    Preserves s (s.event first) := preserves_chain h _

theorem preserves_serving {first : Ctx → Ctx × List Task} (h : Begins s (first (Ctx.start s true))) :
    Preserves s (s.serving first) := preserves_chain h _

/-- An event that begins with calm messages alone. -/
theorem preserves_eventOf {ks : List Task} (h : ∀ k ∈ ks, calm k = true) : Preserves s (s.eventOf ks) :=
  preserves_event (Quiet.begins ⟨.refl s, h⟩)

/-! ### Requests that the zones do not notice -/

theorem sameHeat_setNotices (s : State) (a b c d : Byte) : SameHeat s (s.setNotices a b c d).1 := by
  unfold State.setNotices
  split
  case h_5 => exact sameHeat_setLink ..
  all_goals exact .refl s

theorem sameHeat_restartRequest (s : State) : SameHeat s s.restartRequest.1 := by
  unfold State.restartRequest
  split
  · exact .refl s
  · exact sameHeat_setLink ..

theorem sameHeat_recipeOpen (s : State) (x : Byte) (name : List Byte) (o r z m k : Byte) :
    SameHeat s (s.recipeOpen x name o r z m k).1 := by
  unfold State.recipeOpen
  dsimp only
  split
  · exact .refl s
  · exact .refl s
  · repeat' split
    all_goals first
      | exact .refl s
      | exact sameHeat_setStore ..

theorem sameHeat_recipeStep (s : State) (l i : Byte) (r : RawStep) : SameHeat s (s.recipeStep l i r).1 := by
  unfold State.recipeStep
  dsimp only
  repeat' split
  all_goals first
    | exact .refl s
    | exact sameHeat_setStore ..

theorem sameHeat_recipeClose (s : State) : SameHeat s s.recipeClose.1 := by
  unfold State.recipeClose
  repeat' split
  all_goals first
    | exact .refl s
    | exact sameHeat_setStore ..

theorem sameHeat_recipeCancel (s : State) : SameHeat s s.recipeCancel.1 := by
  unfold State.recipeCancel
  split
  · exact .refl s
  · exact sameHeat_setStore ..

theorem sameHeat_recipeDrop (s : State) (x : Byte) : SameHeat s (s.recipeDrop x).1 := by
  unfold State.recipeDrop
  repeat' split
  all_goals first
    | exact .refl s
    | exact sameHeat_setStore ..

theorem sameHeat_setBudget (s : State) (b : Half) : SameHeat s (s.setBudget b).1 := by
  unfold State.setBudget
  split
  · exact .of_records rfl rfl rfl rfl rfl
  · exact .refl s

theorem sameHeat_setSpeedTable (s : State) (x : Byte) (es : List (Half × Half)) :
    SameHeat s (s.setSpeedTable x es).1 := by
  unfold State.setSpeedTable
  split
  · exact .refl s
  · exact .refl s
  · exact sameHeat_setBoat ..

theorem sameHeat_setFaultPolicy (s : State) (k e l a : Byte) : SameHeat s (s.setFaultPolicy k e l a).1 := by
  unfold State.setFaultPolicy
  repeat' split
  all_goals first
    | exact .refl s
    | exact sameHeat_setFaults ..

theorem sameHeat_clearFaults (s : State) (x : Byte) (ks : List Byte) : SameHeat s (s.clearFaults x ks).1 := by
  unfold State.clearFaults
  split
  · exact .refl s
  · exact .refl s
  · exact sameHeat_setFaults ..

/-! ### Requests of the run controllers (R8, R19 to R26) and BOAT_JOG (R136) -/

/-- A request that an OFFLINE tube refuses. -/
theorem preserves_tubeRequest {x : Byte} {check : Tube → Option Reason} {first : Tube → Ctx → Ctx × List Task}
    (hcheck : ∀ t, s.runState t = .offline → check t ≠ none) (hkept : ∀ t, Kept s (first t (Ctx.start s true)).1.s) :
    Preserves s (s.tubeRequest x check first).1 := by
  unfold State.tubeRequest
  split
  · exact .refl s
  next t _ =>
    split
    · exact .refl s
    next hnone => exact preserves_serving (.of_online (hkept t) fun hoff => hcheck t hoff hnone)

theorem preserves_holdRequest (s : State) (x : Byte) : Preserves s (s.holdRequest x).1 :=
  preserves_tubeRequest (fun t hoff => by simp [unlessState, hoff]) fun _ => SameHeat.kept (sameHeat_setRun rfl rfl)

theorem preserves_resumeRequest (s : State) (x : Byte) : Preserves s (s.resumeRequest x).1 :=
  preserves_tubeRequest (fun t hoff => by simp [hoff]) fun _ => .refl s

theorem preserves_skipRequest (s : State) (x : Byte) : Preserves s (s.skipRequest x).1 :=
  preserves_tubeRequest (fun t hoff => by simp [unlessState, hoff]) fun _ => .refl s

theorem preserves_abortRequest (s : State) (x : Byte) : Preserves s (s.abortRequest x).1 :=
  preserves_tubeRequest (fun t hoff => by simp [unlessState, hoff]) fun _ => .refl s

theorem preserves_safeStopRequest (s : State) (x : Byte) : Preserves s (s.safeStopRequest x).1 :=
  preserves_tubeRequest (fun t hoff => by simp [unlessState, hoff]) fun _ => .refl s

theorem sameHeat_leaveSafe (s : State) (t : Tube) : SameHeat s (s.leaveSafe t) := sameHeat_setAtm ..

theorem eased_recoverStart (t : Tube) (c : Ctx) : Eased c.s (recoverStart t c).1.s := by
  have hboat := (quiet_putBoat t (((c.put (c.s.clearInhibit t)).s.boat.get t).release) (c.put (c.s.clearInhibit t))).same
  exact (eased_clearInhibit c.s t).trans
    (.after_same (eased_changeState (Ctx.put _ _) t .recover (by decide)) (hboat.trans (sameHeat_leaveSafe _ t)))

theorem preserves_recoverRequest (s : State) (x : Byte) : Preserves s (s.recoverRequest x).1 :=
  preserves_tubeRequest (fun t hoff => by simp [hoff]) fun t => (eased_recoverStart t (Ctx.start s true)).toKept

theorem eased_startRun (s : State) (t : Tube) (i : Fin 16) : Eased s (s.startRun t i) := by
  have hinhibit : ∀ n : State, Eased n (if (n.thermal.get t).inhibit = .idle then n.clearInhibit t else n) := by
    intro n
    split
    · exact eased_clearInhibit ..
    · exact .refl n
  have hrecord : Eased s ((s.setStore (s.store.borrow i)).setRun t { s.run.get t with
      recipe := some i, list := .main, holdHost := false, holdFault := false, mask := 0,
      params := (s.tubeConfig t).idleParams }) :=
    .after_same (SameHeat.eased (sameHeat_setRun rfl rfl)) (sameHeat_setStore s (s.store.borrow i))
  unfold State.startRun
  dsimp only
  refine .trans (.trans (hrecord.trans ((eased_handOver _ t).trans
    (eased_setBank _ t (s.tubeConfig t).defaultBank))) (hinhibit _)) ?_
  exact SameHeat.eased (sameHeat_setRun rfl rfl)

theorem eased_runStart (t : Tube) (i : Fin 16) (c : Ctx) : Eased c.s (runStart t i c).1.s := by
  have hboat := (quiet_putBoat t (((c.s.startRun t i).boat.get t).release.dropFailed)
    ((c.put (c.s.startRun t i)).setBusy t true)).same
  exact (eased_startRun c.s t i).trans (.after_same (eased_changeState _ t .run (by decide)) hboat)

theorem preserves_runRequest (s : State) (x i : Byte) : Preserves s (s.runRequest x i).1 := by
  unfold State.runRequest
  split
  · exact .refl s
  · exact .refl s
  next t j _ _ =>
    split
    · exact .refl s
    next hcheck =>
      refine preserves_serving (.of_online (t := t) (eased_runStart t j (Ctx.start s true)).toKept fun hoff => ?_)
      simp [State.runCheck, hoff] at hcheck

theorem preserves_boatJog (s : State) (x : Byte) (p v : Half) : Preserves s (s.boatJog x p v).1 := by
  have hmove : ∀ t, Preserves s (s.serving fun c => (c, [.moveRequest t p.toNat v.toNat])) := fun t =>
    preserves_serving (Quiet.begins ⟨.refl s, by simp [calm]⟩)
  unfold State.boatJog
  repeat' split
  all_goals first
    | exact .refl s
    | exact hmove _

/-! ### Configuration (R172 to R175) -/

/-- The zones above the new active zones are at their reset values, the others stand (R172, log entry 15). -/
theorem writeTubeConfig_thermal (s : State) (t : Tube) (cfg : TubeConfig) :
    (∀ u, u ≠ t → (s.writeTubeConfig t cfg).thermal.get u = s.thermal.get u) ∧
    (s.writeTubeConfig t cfg).thermal.get t =
      { s.thermal.get t with zones := ((s.writeTubeConfig t cfg).thermal.get t).zones } ∧
    ∀ z, ((s.writeTubeConfig t cfg).thermal.get t).zones.get z = .reset ∨
      ((s.writeTubeConfig t cfg).thermal.get t).zones.get z = (s.thermal.get t).zones.get z := by
  have hnodup : (Zone.list.drop cfg.activeZones).Nodup :=
    (show Zone.list.Nodup by decide).sublist (List.drop_sublist ..)
  obtain ⟨hframe, hzone⟩ := foldl_at (I := fun m : ThermalRec => m = { s.thermal.get t with zones := m.zones })
    (get := fun m : ThermalRec => m.zones.get) (f := fun m z => m.setZone z .reset) (h := fun _ _ => .reset)
    (fun m z hm => by rw [hm]; rfl) (fun m z _ => by simp [ThermalRec.setZone])
    (fun m z y _ hy => by simp [ThermalRec.setZone, PerZone.get_set_other _ hy]) hnodup (s.thermal.get t) rfl
  refine ⟨fun u hu => PerTube.get_set_other _ hu _, ?_, fun z => ?_⟩
  · simpa [State.writeTubeConfig] using hframe
  · have hz := hzone z
    split at hz
    · exact .inl (by simpa [State.writeTubeConfig] using hz)
    · exact .inr (by simpa [State.writeTubeConfig] using hz)

/-- Before COMMISSION every demand is 0, and a configuration record may change. -/
theorem preserves_writeTubeConfig (hlocked : s.config.locked = false) (t : Tube) (cfg : TubeConfig) :
    Preserves s (s.writeTubeConfig t cfg) := by
  obtain ⟨hothers, hblock, hzone⟩ := writeTubeConfig_thermal s t cfg
  refine ⟨fun h u z => ?_, fun h => (heatersSound_iff _).2 ?_⟩
  · by_cases hu : u = t
    · subst hu
      obtain hz | hz := hzone z <;> rw [hz]
      · simp [ZoneRec.rampSound, ZoneRec.reset]
      · exact h u z
    · rw [hothers u hu]
      exact h u z
  · obtain ⟨⟨hstate, hheld⟩, hoff⟩ := (heatersSound_iff s).1 h
    have hzero : ∀ u z, (heater s u z).1.demand = 0 := fun u z => (hheld u z).2.2 (.inl (hoff hlocked u))
    have hsame : ∀ u z, (heater (s.writeTubeConfig t cfg) u z).1.demand = 0 := by
      intro u z
      by_cases hu : u = t
      · subst hu
        obtain hz | hz := hzone z
        · exact congrArg ZoneRec.demand hz
        · exact (congrArg ZoneRec.demand hz).trans (hzero u z)
      · exact (congrArg (fun r => (r.zones.get z).demand) (hothers u hu)).trans (hzero u z)
    refine ⟨⟨fun u => ?_, fun u z => zoneHeld_of_zero (hsame u z) ?_⟩, hoff⟩
    · by_cases hu : u = t
      · subst hu
        rw [hblock]
        exact hstate u
      · rw [hothers u hu]
        exact hstate u
    · rw [hsame]
      exact (hheld u z).1.trans (hzero u z).le

theorem preserves_configureTube (s : State) (x f z : Byte) (fs : TubeFields) :
    Preserves s (s.configureTube x f z fs).1 := by
  unfold State.configureTube
  dsimp only
  split
  · exact .refl s
  next hlocked =>
    have hlocked : s.config.locked = false := by simpa using hlocked
    split
    · exact .refl s
    · exact .refl s
    · exact preserves_writeTubeConfig hlocked ..
    · split
      · exact .refl s
      · exact preserves_writeTubeConfig hlocked ..

theorem preserves_configureBank (s : State) (a b c d : Byte) (x w : Half) :
    Preserves s (s.configureBank a b c d x w).1 := by
  unfold State.configureBank
  split
  · exact .refl s
  · split
    · exact .refl s
    · exact ⟨id, id⟩

/-- The bank with its configuration locked (R175). -/
def lockedState (s : State) : State := { s with config := { s.config with locked := true } }

/-- Once the configuration is locked the tubes may leave OFFLINE. -/
theorem preserves_lockedState (s : State) : Preserves s (lockedState s) :=
  ⟨id, fun ⟨hstate, _, hzones⟩ => ⟨hstate, fun h => by simp [lockedState] at h, hzones⟩⟩

theorem begins_commissionStart (s : State) : Begins (lockedState s) (commissionStart (Ctx.start s true)) := by
  have hshed := quiet_shedOnset ((Ctx.start s true).put (lockedState s))
  exact ⟨hshed.same.kept, fun h => by simp [lockedState] at h⟩

theorem preserves_commission (s : State) : Preserves s s.commission.1 := by
  unfold State.commission
  repeat' split
  all_goals first
    | exact .refl s
    | exact (preserves_lockedState s).trans (preserves_chain (begins_commissionStart s) _)

/-! ### LOAD_TUNING (R67, R68) -/

/-- Limiting the demands of several tubes writes zone records alone, and limits the active zones of each. -/
theorem limitTubes_spec {l : List Tube} (hl : l.Nodup) (s : State) :
    ZonesWritten s (l.foldl (fun s t => s.limitDemands t) s) ∧
    ∀ t z, heater (l.foldl (fun s t => s.limitDemands t) s) t z =
      if t ∈ l ∧ z.number ≤ (s.tubeConfig t).activeZones then limited (s.tuning t z).lmax (heater s t z)
      else heater s t z := by
  obtain ⟨hwritten, hzone⟩ := foldl_at (I := ZonesWritten s) (get := fun n t => heater n t)
    (f := fun n t => n.limitDemands t)
    (h := fun t p z => if z.number ≤ (s.tubeConfig t).activeZones then limited (s.tuning t z).lmax (p z) else p z)
    (fun n t hn => hn.trans (zonesOnly_limitDemands n t).toZonesWritten)
    (fun n t hn => funext fun z => by rw [heater_limitDemands, hn.tubeConfig, hn.tuning])
    (fun n t u _ hu => funext fun z => (zonesOnly_limitDemands n t).others u hu z) hl s (.refl s)
  refine ⟨hwritten, fun t z => ?_⟩
  have hz := congrFun (hzone t) z
  by_cases ht : t ∈ l <;> simpa [ht] using hz

theorem nodup_tubes : Tube.list.Nodup := by decide

theorem mem_tubes (t : Tube) : t ∈ Tube.list := by cases t <;> decide

/-- A bank written, and the demands of its users limited to it (R68). -/
def bankLoaded (s : State) (b : Fin 8) (entries : PerZone Tuning) : State :=
  (Tube.list.filter fun t => (s.run.get t).bank = b).foldl (fun s t => s.limitDemands t)
    { s with banks := s.banks.set b.val entries b.isLt }

theorem heater_bankLoaded (s : State) (b : Fin 8) (entries : PerZone Tuning) (t : Tube) (z : Zone) :
    heater (bankLoaded s b entries) t z =
      if (s.run.get t).bank = b ∧ z.number ≤ (s.tubeConfig t).activeZones then
        limited (entries.get z).lmax (heater s t z)
      else heater s t z := by
  refine ((limitTubes_spec (nodup_tubes.filter _) _).2 t z).trans ?_
  by_cases hb : (s.run.get t).bank = b
  · have hlimit : ({ s with banks := s.banks.set b.val entries b.isLt } : State).tuning t z = entries.get z := by
      simp [State.tuning, hb]
    simp only [List.mem_filter, mem_tubes, hb, decide_true, true_and, hlimit]
    rfl
  · simp only [List.mem_filter, hb, decide_false, Bool.false_eq_true, and_false, false_and, if_false]
    rfl

theorem bankLoaded_written (s : State) (b : Fin 8) (entries : PerZone Tuning) :
    ZonesWritten { s with banks := s.banks.set b.val entries b.isLt } (bankLoaded s b entries) :=
  (limitTubes_spec (nodup_tubes.filter _) _).1

theorem tuning_bankLoaded (s : State) (b : Fin 8) (entries : PerZone Tuning) (t : Tube) (z : Zone) :
    (bankLoaded s b entries).tuning t z =
      if (s.run.get t).bank = b then entries.get z else s.tuning t z := by
  rw [(bankLoaded_written s b entries).tuning]
  by_cases hb : (s.run.get t).bank = b
  · simp [State.tuning, hb]
  · have hne : (b : Nat) ≠ ((s.run.get t).bank : Nat) := fun e => hb (Fin.ext e.symm)
    simp [State.tuning, hb, hne]

theorem preserves_bankLoaded (s : State) (b : Fin 8) (entries : PerZone Tuning) :
    Preserves s (bankLoaded s b entries) := by
  have hwritten := bankLoaded_written s b entries
  have hzone := heater_bankLoaded s b entries
  refine ⟨fun h t z => ?_, fun h => (heatersSound_iff _).2 ?_⟩
  · show (heater (bankLoaded s b entries) t z).1.rampSound
    rw [hzone]
    split
    · rw [limited_fst]
      exact h t z
    · exact h t z
  · obtain ⟨⟨hstate, hheld⟩, hoff⟩ := (heatersSound_iff s).1 h
    refine ⟨⟨fun t => ?_, fun t z => ?_⟩, fun hlocked t => ?_⟩
    · rw [hwritten.blocks, hwritten.runState]
      exact hstate t
    · have hinhibit : ((bankLoaded s b entries).thermal.get t).inhibit = (s.thermal.get t).inhibit := by
        rw [hwritten.blocks]
      have hlimit := tuning_bankLoaded s b entries t z
      have heq := hzone t z
      by_cases hb : (s.run.get t).bank = b
      · by_cases hz : z.number ≤ (s.tubeConfig t).activeZones
        · rw [if_pos ⟨hb, hz⟩] at heq
          rw [if_pos hb] at hlimit
          exact zoneHeld_limited (hheld t z) (by rw [heq, hlimit]) (hwritten.runState t) hinhibit
            (hwritten.tubeConfig t)
        · exact zoneHeld_inactive (hheld t z) hz (heq.trans (if_neg fun e => hz e.2))
      · exact (zoneHeld_congr (heq.trans (if_neg fun e => hb e.1)) (hlimit.trans (if_neg hb)) (hwritten.runState t)
          hinhibit (hwritten.tubeConfig t)).2 (hheld t z)
    · rw [hwritten.config] at hlocked
      rw [hwritten.runState]
      exact hoff hlocked t

theorem preserves_loadTuning (s : State) (x : Byte) (e1 e2 e3 e4 e5 : TuningFields) :
    Preserves s (s.loadTuning x e1 e2 e3 e4 e5).1 := by
  unfold State.loadTuning
  split
  · exact .refl s
  · exact .refl s
  · exact preserves_bankLoaded ..

/-! ### Every request, and the line it comes by -/

/-- Whatever request is served, the invariants are kept (R160). -/
theorem preserves_serve (s : State) (r : Request) : Preserves s (s.serve r).1 := by
  cases r with
  | setNotices a b c d => exact SameHeat.preserves (sameHeat_setNotices ..)
  | configureTube t f z fs => exact preserves_configureTube ..
  | configureBank a b c d x w => exact preserves_configureBank ..
  | commission => exact preserves_commission s
  | setClock o => exact SameHeat.preserves (.of_records rfl rfl rfl rfl rfl)
  | restart => exact SameHeat.preserves (sameHeat_restartRequest s)
  | run t i => exact preserves_runRequest ..
  | hold t => exact preserves_holdRequest ..
  | resume t => exact preserves_resumeRequest ..
  | skipStep t => exact preserves_skipRequest ..
  | abort t => exact preserves_abortRequest ..
  | safeStop t => exact preserves_safeStopRequest ..
  | recover t => exact preserves_recoverRequest ..
  | recipeOpen i n o r z m k => exact SameHeat.preserves (sameHeat_recipeOpen ..)
  | recipeStep l i r => exact SameHeat.preserves (sameHeat_recipeStep ..)
  | recipeClose => exact SameHeat.preserves (sameHeat_recipeClose s)
  | recipeCancel => exact SameHeat.preserves (sameHeat_recipeCancel s)
  | recipeDrop i => exact SameHeat.preserves (sameHeat_recipeDrop ..)
  | recipeDropOwner o => exact SameHeat.preserves (sameHeat_setStore ..)
  | loadTuning b e1 e2 e3 e4 e5 => exact preserves_loadTuning ..
  | setBudget b => exact SameHeat.preserves (sameHeat_setBudget ..)
  | setSpeedTable t es => exact SameHeat.preserves (sameHeat_setSpeedTable ..)
  | boatJog t x v => exact preserves_boatJog ..
  | setFaultPolicy k e l a => exact SameHeat.preserves (sameHeat_setFaultPolicy ..)
  | clearFaults t ks => exact SameHeat.preserves (sameHeat_clearFaults ..)
  | identify | queryTube | readRecipe | queryZones | queryPower | queryGas | queryAtmosphere | queryBoat | readLog
  | queryFaults => exact .refl s

theorem preserves_setLink (s : State) (l : Link) : Preserves s (s.setLink l) := SameHeat.preserves (sameHeat_setLink s l)

theorem preserves_takeFrame (s : State) (f : Frame) : Preserves s (s.takeFrame f) := by
  have hanswer : Preserves s (s.answerFrame f).1 := by
    unfold State.answerFrame
    split
    · exact .refl s
    · exact .refl s
    · exact preserves_serve ..
  exact hanswer.trans (preserves_setLink ..)

theorem preserves_takeRequests (n : Nat) (s : State) : Preserves s (takeRequests n s) := by
  induction n generalizing s with
  | zero => exact .refl s
  | succ n ih =>
    unfold takeRequests
    split
    · exact .refl s
    · split
      · exact ((preserves_setLink ..).trans (preserves_takeFrame ..)).trans (ih _)
      · exact .refl s

theorem preserves_takeAll (s : State) : Preserves s s.takeAll := preserves_takeRequests ..

theorem preserves_completeGood (s : State) (f : Frame) : Preserves s (s.completeGood f) :=
  (preserves_setLink ..).trans (preserves_takeAll _)

theorem preserves_receive (s : State) (b : Byte) : Preserves s (s.receive b) := by
  unfold State.receive
  dsimp only
  split
  · split
    · exact preserves_setLink ..
    · exact .refl s
  · split <;> exact preserves_setLink ..
  · exact preserves_setLink ..
  · unfold State.completeFrame
    dsimp only
    split
    · exact (preserves_setLink ..).trans (preserves_completeGood ..)
    · exact (preserves_setLink ..).trans (preserves_setLink ..)

/-- The values after reset are sound, whatever the state before (R177). -/
theorem preserves_resetAt (s : State) (l : Lines) (held : Bool) (pending : List Instr) :
    Preserves s (State.resetAt l held pending) := by
  refine ⟨fun _ t z => ?_, fun _ => ⟨fun t => ?_, fun _ t => ?_, fun t z => ?_⟩⟩
  · simp [State.resetAt, ThermalRec.reset, ZoneRec.rampSound, ZoneRec.reset]
  · simp [State.resetAt, State.runState, ThermalRec.reset, RunRec.reset]
  · simp [State.resetAt, State.runState, RunRec.reset]
  · simp [State.resetAt, Alloc.zone, Alloc.resetAt, AllocZone.reset, ThermalRec.reset, ZoneRec.reset]

theorem preserves_transmitComplete (s : State) : Preserves s s.transmitComplete := by
  unfold State.transmitComplete
  split
  · exact .refl s
  · split
    · exact preserves_resetAt ..
    · exact (preserves_setLink ..).trans (preserves_takeAll _)
  · exact (preserves_setLink ..).trans (preserves_takeAll _)

/-! ### Every command -/

/-- A command that carries a request is the good frame of it completing (log entry 2). -/
theorem exec_of_instrRequest {i : Instr} {tag : Byte} {r : Request} (h : instrRequest i = some (tag, r)) (s : State) :
    exec i s = s.host tag r := by
  cases i <;> cases h <;> rfl

theorem preserves_act {f : State → State} (h : s.act f = .next n) (hf : Preserves s (f s)) : Preserves s n := by
  cases hreset : s.inReset with
  | true =>
    rw [State.act_held hreset] at h
    cases h
    exact .refl _
  | false =>
    rw [State.act_eq hreset] at h
    cases h
    exact hf

/-- A command that begins an event of the plant. -/
theorem preserves_first (first : Ctx → Ctx × List Task) (h : s.act (fun s => s.event first) = .next n)
    (hf : Begins s (first (Ctx.start s false))) : Preserves s n := preserves_act h (preserves_event hf)

/-- A command that gives one calm message. -/
theorem preserves_message (k : Task) (h : s.act (fun s => s.eventOf [k]) = .next n) (hk : calm k = true) :
    Preserves s n :=
  preserves_act h (preserves_eventOf fun j hj => by rw [List.mem_singleton.1 hj]; exact hk)

/-- An edge of an input line: in reset the line alone follows (R177). -/
theorem preserves_edge {a b : State} (h : (Host.Outcome.next (if s.inReset then a else b) : Out) = .next n)
    (ha : Preserves s a) (hb : Preserves s b) : Preserves s n := by
  cases h
  split
  · exact ha
  · exact hb

theorem thermalTickStart_calm (t : Tube) (c : Ctx) : ∀ k ∈ (thermalTickStart t c).2, calm k = true := by
  intro k hk
  unfold thermalTickStart at hk
  dsimp only at hk
  split at hk
  · simp at hk
  · simp only [List.mem_append, List.mem_singleton, List.mem_flatMap, deviationReport, zoneDetection] at hk
    obtain (rfl | ⟨z, -, hk⟩) | rfl := hk
    · rfl
    · split at hk
      · rw [List.mem_singleton.1 hk]
        rfl
      · simp at hk
    · rfl

theorem preserves_sampleArrival (s : State) (t : Tube) (z : Zone) (tc : Thermocouple) (v : Reading) :
    Preserves s (s.sampleArrival t z tc v) := by
  unfold State.sampleArrival
  split
  · have hwritten : Preserves s (s.writeSample t z tc (readingSample v)) := by
      refine Kept.preserves (kept_writeSample ..) fun hoff => ?_
      unfold State.writeSample
      dsimp only
      split
      · exact hoff
      · exact hoff
    refine hwritten.trans (preserves_eventOf ?_)
    split <;> simp [calm]
  · exact .refl s

/-- A thermal tick writes no run record and reports detections and its view alone. -/
theorem begins_thermalTickStart (t : Tube) (c : Ctx) : Begins c.s (thermalTickStart t c) := by
  by_cases hoff : (c.s.thermal.get t).runState = .offline
  · rw [thermalTickStart_offline hoff]
    exact Quiet.begins (.none c)
  · refine ⟨kept_thermalTickStart t c, fun _ hall => ⟨fun u => ?_, thermalTickStart_calm t c⟩⟩
    rw [thermalTickStart_s hoff]
    exact ((zonesOnly_controlZones (advanceAll c.s t) t).runState u).trans (hall u)

/-- An allocation pass and the reports that follow it (R78, R82). -/
def passEvent (s : State) : State := s.allocate.eventOf (bankPositions.map fun p => .powerStarved p.1 p.2)

theorem exec_allocationPass (s : State) : exec .allocationPass s = s.act passEvent := rfl

theorem preserves_passEvent (s : State) : Preserves s (passEvent s) := by
  have hpass : Preserves s s.allocate := by
    refine Kept.preserves (kept_allocate s) ?_
    obtain ⟨a, -, hs⟩ := allocate_spec s
    rw [hs]
    exact fun hoff => hoff
  refine hpass.trans (preserves_eventOf fun k hk => ?_)
  obtain ⟨p, -, rfl⟩ := List.mem_map.1 hk
  rfl

theorem preserves_logSequenceWrap (s : State) : Preserves s
    (if s.faults.nextSeq = 4294967295 then
      (s.setFaults s.faults.tookReport).eventOf [wrapTask (Config.wrapReport s.faults.wraps)] else s) := by
  split
  · refine Preserves.trans (SameHeat.preserves (sameHeat_setFaults ..)) (preserves_eventOf ?_)
    intro k hk
    rw [List.mem_singleton.1 hk, wrapTask]
    split <;> rfl
  · exact .refl s

/-- Whatever command is run, the invariants are kept. -/
theorem preserves_exec {i : Instr} (h : exec i s = .next n) : Preserves s n := by
  cases hreq : instrRequest i with
  | some p =>
    rw [exec_of_instrRequest (tag := p.1) (r := p.2) hreq] at h
    exact preserves_act h (preserves_completeGood ..)
  | none =>
    cases i with
    | rxByte b => exact preserves_act (f := fun s => s.receive b) h (preserves_receive s b)
    | rxFramingError => exact preserves_act (f := fun s => s.setLink s.link.hunt) h (preserves_setLink ..)
    | silenceTimeout => exact preserves_act (f := fun s => s.setLink s.link.hunt) h (preserves_setLink ..)
    | takeRequest => exact preserves_act h (preserves_takeAll s)
    | transmitComplete => exact preserves_act h (preserves_transmitComplete s)
    | powerOn => cases h; exact preserves_resetAt ..
    | resetN => cases h; exact preserves_resetAt ..
    | resetRelease strap => exact preserves_edge h (preserves_resetAt ..) (.refl s)
    | uptimeTick =>
      have htime : SameHeat s { s with time := { s.time with uptime := s.time.uptime + 1 } } :=
        .of_records rfl rfl rfl rfl rfl
      exact preserves_act (f := fun s => { s with time := { s.time with uptime := s.time.uptime + 1 } }) h
        (SameHeat.preserves htime)
    | stepTimerTick t =>
      exact preserves_first (stepTimerTick t) h (Quiet.begins (quiet_stepTimerTick t (Ctx.start s false)))
    | stepTimeElapsed t => exact preserves_message (.stepElapsed t) h rfl
    | stepTimeout t => exact preserves_message (.stepTimeout t) h rfl
    | sampleArrival t z tc v => exact preserves_act h (preserves_sampleArrival ..)
    | thermalTick t => exact preserves_first (thermalTickStart t) h (begins_thermalTickStart t (Ctx.start s false))
    | rampStalled t => exact preserves_message (.rampStalled t) h rfl
    | allocationPass =>
      rw [exec_allocationPass] at h
      exact preserves_act h (preserves_passEvent s)
    | powerStarved t z => exact preserves_message (.powerStarved t z) h rfl
    | loadShedEdge rising =>
      exact preserves_edge h (SameHeat.preserves (sameHeat_lines ..))
        (preserves_event (Quiet.begins (quiet_shedEdge rising (Ctx.start s false))))
    | flowReadback t l v =>
      exact preserves_first (flowReadback t l (s.gas.writeReadback t l v)) h (Quiet.begins (quiet_flowReadback t l _ (Ctx.start s false)))
    | gasTick t =>
      exact preserves_first (gasTickStart t) h (Quiet.begins (quiet_gasTickStart t (Ctx.start s false)))
    | admitted => exact preserves_message .examine h rfl
    | headerWaitTimeout t => exact preserves_message (.headerWait t) h rfl
    | flowDeviation t l => exact preserves_message (.flowDeviation t l) h rfl
    | purgeComplete t => exact preserves_message (.purgeComplete t) h rfl
    | purgeIncomplete t => exact preserves_message (.purgeIncomplete t) h rfl
    | ignitionChange t => exact preserves_message (.ignitionTest t) h rfl
    | flameSenseRise t =>
      exact preserves_edge h (SameHeat.preserves (sameHeat_lines ..))
        (preserves_event (Quiet.begins (quiet_flameRise t (Ctx.start s false))))
    | flameSenseFall t =>
      exact preserves_edge h (SameHeat.preserves (sameHeat_lines ..))
        (preserves_event (Quiet.begins (quiet_flameFall t (Ctx.start s false))))
    | ignitionFailed t => exact preserves_message (.ignitionFailed t) h rfl
    | postFlowEnd t => exact preserves_message (.postFlowEnd t) h rfl
    | positionArrival t v =>
      exact preserves_first (positionArrival t v) h (Quiet.begins (quiet_positionArrival t v (Ctx.start s false)))
    | motionTick t =>
      exact preserves_first (motionTick t) h (Quiet.begins (quiet_motionTick t (Ctx.start s false)))
    | moveStart t => exact preserves_message (.moveStart t) h rfl
    | openLimitEdge t rising =>
      exact preserves_edge h (SameHeat.preserves (sameHeat_lines ..))
        (preserves_event (Quiet.begins (quiet_openLimitEdge t rising (Ctx.start s false))))
    | closedLimitEdge t rising =>
      exact preserves_edge h (SameHeat.preserves (sameHeat_lines ..))
        (preserves_event (Quiet.begins (quiet_closedLimitEdge t rising (Ctx.start s false))))
    | settleTimeout t => exact preserves_message (.settleTimeout t) h rfl
    | shutterTimeout t => exact preserves_message (.shutterTimeout t) h rfl
    | bankLineEdge l rising =>
      exact preserves_edge h (SameHeat.preserves (sameHeat_lines ..))
        (preserves_event (Quiet.begins (quiet_bankLineEdge l rising (Ctx.start s false))))
    | logSequenceWrap => exact preserves_act h (preserves_logSequenceWrap s)
    | _ => cases hreq

theorem preserves_step (h : step s = .next n) : Preserves s n := by
  unfold step at h
  split at h
  · cases h
    exact .refl _
  next i rest _ =>
    have hqueue : SameHeat s { s with pending := rest } := .of_records rfl rfl rfl rfl rfl
    exact (SameHeat.preserves hqueue).trans (preserves_exec h)

end

/-- Settles O42: no operation takes a setpoint out of the span from its ramp's origin to its target. -/
theorem rampsStaySound : Obligations.RampsStaySound := fun _ _ hs h => (preserves_step h).ramps hs

/-- Settles O43: every operation that raises a demand or a firing respects what limits it, and every operation that
lowers a limit lowers what stands above it. -/
theorem heatersStaySound : Obligations.HeatersStaySound := fun _ _ hs h => (preserves_step h).heaters hs

end Sys2Proof.ZoneSteps

/-! SUPPORT. The rules of zone temperature control one by one: the ramp, the PI demand, the sample, LOAD_TUNING, and the rows of
a fault's onset (R48 to R53, R59, R61, R62, R67, R68, R82, R95, R98, R109, R130 to R132). -/

namespace Sys2Proof.ZoneControl

open Sys2Proof.Machine Sys2Proof.RecipeRequests Sys2Proof.ZoneRules Sys2Proof.ZoneInvariants Sys2Proof.ZoneEvents
  Sys2Proof.ZoneWork Sys2Proof.ZoneSteps

/-! ### The ramp (R53) and the demand (R61, R62) -/

/-- Settles O37: an advance reaches a near target and otherwise moves by the increment; a zone that does not advance
stands. -/
theorem rampAdvanceIsExact : Obligations.RampAdvanceIsExact := by
  refine ⟨fun z r => ⟨advance_of_near, fun hfar => ⟨fun hup => ?_, fun hdown => ?_⟩⟩, fun a ha => ?_,
    fun r n starved z hstands => ?_⟩
  · rw [advance_of_far hfar, if_pos hup]
  · rw [advance_of_far hfar, if_neg (Nat.lt_asymm hdown)]
  · omega
  · have hzone := advanceRamps_zone r n starved z
    rw [hstands, if_neg (by simp)] at hzone
    rw [hzone]
    exact ⟨rfl, rfl⟩

/-- Settles O38: demand, integral and error are clamped values, and each clamp is the identity inside its bounds. -/
theorem demandStaysWithinTheOutputLimit : Obligations.DemandStaysWithinTheOutputLimit := by
  refine ⟨fun k e i => ?_, fun sp pv => ?_⟩
  · have hdemand : piDemand k e i = (max 0 (min (k.lmax : Int) (piOutput k e i))).toNat := rfl
    have hhold : (k.lmax : Int) < piOutput k e i ∧ 0 < e ∨ piOutput k e i < 0 ∧ e < 0 → piIntegral k e i = i :=
      fun h => if_pos h
    have hmove : ¬ ((k.lmax : Int) < piOutput k e i ∧ 0 < e ∨ piOutput k e i < 0 ∧ e < 0) →
        piIntegral k e i = (max 0 (min ((k.lmax : Int) * 1000) ((i : Int) + k.ki * e))).toNat := fun h => if_neg h
    intro u
    have hu : piOutput k e i = u := rfl
    rw [hu] at hdemand hhold hmove
    generalize (i : Int) + k.ki * e = sum at hmove ⊢
    refine ⟨by omega, by omega, by omega, by omega, hhold, fun hfree => ?_⟩
    have hintegral := hmove hfree
    refine ⟨by omega, by omega, by omega, by omega⟩
  · unfold piError
    omega

/-! ### The onset of a fault as a row of its own (log entry 3) -/

section

variable {s n : State} {k : Task} {ks : List Task}

/-- A row whose message writes the state and reports. -/
theorem eventOf_acts (h : handle k (Ctx.start s false) = ((Ctx.start s false).put n, ks)) : s.eventOf [k] = n.after ks := by
  rw [State.eventOf_single, h, List.append_nil]
  rfl

/-- A row whose message does nothing. -/
theorem eventOf_stands (h : handle k (Ctx.start s false) = (Ctx.start s false, [])) : s.eventOf [k] = s := by
  rw [State.eventOf_single, h]
  simp

/-- A row that judges a condition: its state and its reports where the condition holds, nothing where it fails. -/
theorem act_onset {p : Prop} [Decidable p] (hreset : s.inReset = false)
    (h : handle k (Ctx.start s false) = if p then ((Ctx.start s false).put n, ks) else (Ctx.start s false, [])) :
    (s.act fun s => s.eventOf [k]) = .next (if p then n.after ks else s) := by
  rw [State.act_eq hreset]
  by_cases hp : p
  · rw [if_pos hp] at h ⊢
    rw [eventOf_acts h]
  · rw [if_neg hp] at h ⊢
    rw [eventOf_stands h]

theorem exec_rampStalled (t : Tube) (hreset : s.inReset = false) : exec (.rampStalled t) s = .next
    (if (s.thermal.get t).runState ≠ .offline ∧ (s.thermal.get t).stallHolds ∧ (s.thermal.get t).stalled = false then
      (s.setThermal t { s.thermal.get t with stalled := true }).after [.detect (detection t .rampStalled none
        (some (s.thermal.get t).counter) (some (s.thermal.get t).params.holdback))]
     else s) := act_onset hreset rfl

theorem exec_powerStarved (t : Tube) (z : Zone) (hreset : s.inReset = false) : exec (.powerStarved t z) s = .next
    (if (s.alloc.zone t z).part ∧ (s.alloc.zone t z).cls = .soak ∧ (s.alloc.zone t z).starved ∧
        (s.tubeConfig t).starveLimit ≤ (s.alloc.zone t z).timer ∧ (s.alloc.zone t z).starvedCond = false then
      (s.setAlloc (s.alloc.setZone t z { s.alloc.zone t z with starvedCond := true })).after
        [.detect (detection t .powerStarved (some z.number) (some (s.alloc.zone t z).timer)
          (some (s.tubeConfig t).starveLimit))]
     else s) := act_onset hreset rfl

/-- The entries of the gas wait queue with the timeout of one tube's entry marked (R95). -/
def timedOut (g : Gas) (t : Tube) : Gas :=
  { g with queue := g.queue.map fun e => if e.tube = t then { e with timedOut := true } else e }

theorem exec_headerWaitTimeout_absent {t : Tube} (hreset : s.inReset = false) (he : s.gas.entry? t = none) :
    exec (.headerWaitTimeout t) s = .next s := by
  have hstands : handle (.headerWait t) (Ctx.start s false) = (Ctx.start s false, []) := by
    simp [handle, taskHeaderWait, he]
  show (s.act fun s => s.eventOf [.headerWait t]) = .next s
  rw [State.act_eq hreset, eventOf_stands hstands]

theorem exec_headerWaitTimeout {t : Tube} {e : GasEntry} (hreset : s.inReset = false) (he : s.gas.entry? t = some e) :
    exec (.headerWaitTimeout t) s = .next
      (if e.overdue s.config.bank.waitTimeout ∧ e.timedOut = false then
        (s.setGas (timedOut s.gas t)).after
          [.detect (detection t .headerWaitTimeout ((s.gas.blockingHeader s.config.bank.headers e).map GasLine.code)
            (some e.age) (some s.config.bank.waitTimeout))]
       else s) := by
  refine act_onset hreset ?_
  simp only [handle, taskHeaderWait, Ctx.start_s, he]
  rfl

theorem exec_flowDeviation (t : Tube) (l : GasLine) (hreset : s.inReset = false) : exec (.flowDeviation t l) s = .next
    (if s.runState t ≠ .offline ∧ ((s.gas.lines.get t).get l).due then
      (s.setGas { s.gas with lines := s.gas.lines.set t ((s.gas.lines.get t).set l
          { (s.gas.lines.get t).get l with raised := true }) }).after
        [.detect (detection t .flowDeviation (some l.code) ((s.gas.lines.get t).get l).offset?
          (some ((s.tubeConfig t).scale.get l * 5 / 100)))]
     else s) := act_onset hreset rfl

theorem exec_purgeIncomplete (t : Tube) (hreset : s.inReset = false) : exec (.purgeIncomplete t) s = .next
    (if (s.atm.get t).state = .purge ∧ (s.atm.get t).purgeVolume < (s.atm.get t).purgeTarget ∧
        (s.atm.get t).purgeLimit ≤ (s.atm.get t).purgeTimer ∧ (s.atm.get t).incomplete = false then
      (s.setAtm t { s.atm.get t with incomplete := true }).after [.detect (detection t .purgeIncomplete none
        (some (s.atm.get t).purgeVolume) (some (s.atm.get t).purgeTarget))]
     else s) := act_onset hreset rfl

theorem exec_settleTimeout (t : Tube) (hreset : s.inReset = false) : exec (.settleTimeout t) s = .next
    (if (s.boat.get t).state = .settle ∧ 10 < (s.boat.get t).phaseTimer ∧ (s.boat.get t).within = false then
      (s.setBoat t { s.boat.get t with state := .stalled, speedCmd := 0 }).after
        [.boatReport t, .detect (detection t .boatStall none (s.boat.get t).offset? (some 10))]
     else s) := act_onset hreset rfl

theorem exec_shutterTimeout (t : Tube) (hreset : s.inReset = false) : exec (.shutterTimeout t) s = .next
    (if ((s.boat.get t).state = .shutterOpening ∨ (s.boat.get t).state = .shutterClosing) ∧
        30 < (s.boat.get t).phaseTimer then
      (s.setBoat t { s.boat.get t with
          shutter := .closed, pos := (s.boat.get t).posMeasured, remainder := 0, closePending := false,
          failed := (s.boat.get t).target.isSome, state := .ready }).after
        [.boatReport t, .detect (detection t .shutterTimeout none (some (s.boat.get t).phaseTimer) (some 30))]
     else s) := act_onset hreset rfl

theorem stallHolds_iff (r : ThermalRec) :
    r.stallHolds = true ↔ r.params.holdback ≠ 0 ∧ r.params.holdback < r.counter := by
  simp [ThermalRec.stallHolds]

theorem overdue_iff (e : GasEntry) (timeout : Nat) : e.overdue timeout = true ↔ timeout ≠ 0 ∧ timeout < e.age := by
  simp [GasEntry.overdue]

theorem due_iff (r : LineRec) : r.due = true ↔ r.devRun = 10 ∧ r.raised = false := by
  simp [LineRec.due]

theorem boat_within_iff (b : BoatRec) :
    b.within = true ↔ ∃ c m, b.pos = some c ∧ b.measured = some m ∧ Sys2Proof.dist c m ≤ 10 := by
  unfold BoatRec.within BoatRec.offset?
  cases b.pos <;> cases b.measured <;> simp

end

/-- Settles O46: each row acts exactly where its condition holds and its mark does not stand. -/
theorem onsetsAreReportedOnce : Obligations.OnsetsAreReportedOnce := by
  refine ⟨fun s t hreset => ⟨fun hon hlimit hcount => ?_, fun z hpart hcls hstarved htimer => ?_,
      fun e he hlimit hage hmark => ?_, fun l hon hrun => ?_, fun hstate hvolume htimer => ?_,
      fun hstate htimer hfar => ?_, fun hstate htimer => ?_⟩, fun s t hreset => ⟨fun h => ?_, fun z h => ?_, fun h => ?_,
      fun l h => ?_, fun h => ?_, fun h => ?_, fun h => ?_⟩⟩
  · have hholds := (stallHolds_iff _).2 ⟨hlimit, hcount⟩
    rw [exec_rampStalled t hreset]
    exact ⟨fun hmark => by rw [if_pos ⟨hon, hholds, hmark⟩], fun hmark => by simp [hmark]⟩
  · rw [exec_powerStarved t z hreset]
    exact ⟨fun hmark => by rw [if_pos ⟨hpart, hcls, hstarved, htimer, hmark⟩], fun hmark => by simp [hmark]⟩
  · rw [exec_headerWaitTimeout hreset he, if_pos ⟨(overdue_iff e _).2 ⟨hlimit, hage⟩, hmark⟩]
    rfl
  · rw [exec_flowDeviation t l hreset]
    exact ⟨fun hmark => by rw [if_pos ⟨hon, (due_iff _).2 ⟨hrun, hmark⟩⟩], fun hmark => by
      rw [if_neg fun h => by simp [due_iff, hmark] at h]⟩
  · rw [exec_purgeIncomplete t hreset]
    exact ⟨fun hmark => by rw [if_pos ⟨hstate, hvolume, htimer, hmark⟩], fun hmark => by simp [hmark]⟩
  · rw [exec_settleTimeout t hreset, if_pos ⟨hstate, htimer, hfar⟩]
  · rw [exec_shutterTimeout t hreset, if_pos ⟨hstate, htimer⟩]
  · rw [exec_rampStalled t hreset, if_neg]
    rintro ⟨hon, hholds, -⟩
    obtain ⟨hlimit, hcount⟩ := (stallHolds_iff _).1 hholds
    obtain h | h | h := h
    · exact hon h
    · exact hlimit h
    · omega
  · rw [exec_powerStarved t z hreset, if_neg]
    rintro ⟨hpart, hcls, hstarved, htimer, -⟩
    obtain h | h | h | h := h
    · exact absurd hpart (by simp [h])
    · exact h hcls
    · exact absurd hstarved (by simp [h])
    · omega
  · cases he : s.gas.entry? t with
    | none => exact exec_headerWaitTimeout_absent hreset he
    | some e =>
      rw [exec_headerWaitTimeout hreset he, if_neg]
      rintro ⟨hoverdue, hmark⟩
      obtain ⟨hlimit, hage⟩ := (overdue_iff e _).1 hoverdue
      obtain h | h | h := h e he
      · exact hlimit h
      · omega
      · exact absurd h (by simp [hmark])
  · rw [exec_flowDeviation t l hreset, if_neg]
    rintro ⟨hon, hdue⟩
    obtain ⟨hrun, -⟩ := (due_iff _).1 hdue
    exact h.elim hon fun hne => hne hrun
  · rw [exec_purgeIncomplete t hreset, if_neg]
    rintro ⟨hstate, hvolume, htimer, -⟩
    obtain h | h | h := h
    · exact h hstate
    · omega
    · omega
  · rw [exec_settleTimeout t hreset, if_neg]
    rintro ⟨hstate, htimer, hfar⟩
    obtain h | h | h := h
    · exact h hstate
    · omega
    · exact absurd ((boat_within_iff _).2 h) (by simp [hfar])
  · rw [exec_shutterTimeout t hreset, if_neg]
    rintro ⟨hstate, htimer⟩
    obtain ⟨hopening, hclosing⟩ | h := h
    · exact hstate.elim hopening hclosing
    · omega

/-! ### LOAD_TUNING (R67, R68) -/

theorem tuning?_tuningBytes (e : TuningFields) (p : List Byte) : tuning? (tuningBytes e ++ p) = some (e, p) := by
  simp [tuning?, tuningBytes]

theorem decode_loadTuning (x : Byte) (e1 e2 e3 e4 e5 : TuningFields) :
    decodeRequest (requestKind (.loadTuning x e1 e2 e3 e4 e5)) (requestPayload (.loadTuning x e1 e2 e3 e4 e5)) =
      .request (.loadTuning x e1 e2 e3 e4 e5) := by
  have hlast : tuning? (tuningBytes e5) = some (e5, []) := by simpa using tuning?_tuningBytes e5 []
  have hread : loadTuning? (requestPayload (.loadTuning x e1 e2 e3 e4 e5)) =
      some (.loadTuning x e1 e2 e3 e4 e5, []) := by
    simp [loadTuning?, requestPayload, tuning?_tuningBytes, hlast]
  exact congrArg whole hread

/-- The checks of bounded fields, numbered from `n`. -/
def boundChecks : Nat → List (Half × Nat) → List (Nat × Bool)
  | _, [] => []
  | n, p :: ps => (n, decide (p.1.toNat ≤ p.2)) :: boundChecks (n + 1) ps

theorem firstFail_cons (c : Nat × Bool) (cs : List (Nat × Bool)) :
    firstFail (c :: cs) = if c.2 then firstFail cs else some c.1 := by
  cases hc : c.2 <;> simp [firstFail, hc]

theorem firstFail_boundChecks_none {n : Nat} {ps : List (Half × Nat)} (h : ∀ p ∈ ps, p.1.toNat ≤ p.2) :
    firstFail (boundChecks n ps) = none := by
  induction ps generalizing n with
  | nil => rfl
  | cons p ps ih =>
    obtain ⟨hp, hps⟩ := List.forall_mem_cons.1 h
    simp [boundChecks, firstFail_cons, hp, ih hps]

/-- The first field above its bound is the one refused. -/
theorem firstFail_boundChecks_some {n limit : Nat} {v : Half} {pre post : List (Half × Nat)}
    (hpre : ∀ p ∈ pre, p.1.toNat ≤ p.2) (hv : limit < v.toNat) :
    firstFail (boundChecks n (pre ++ (v, limit) :: post)) = some (pre.length + n) := by
  induction pre generalizing n with
  | nil => simp [boundChecks, firstFail_cons, hv]
  | cons p pre ih =>
    obtain ⟨hp, hps⟩ := List.forall_mem_cons.1 hpre
    simp only [List.cons_append, boundChecks, firstFail_cons, hp, decide_true, if_true, ih hps, List.length_cons]
    congr 1
    omega

/-- The fifteen fields of LOAD_TUNING behind the bank, each with its bound, in field order (R67). -/
def tuningBounds (es : List TuningFields) : List (Half × Nat) :=
  es.flatMap fun e => [(e.kp, 9999), (e.ki, 9999), (e.lmax, 1000)]

/-- The entries that LOAD_TUNING writes. -/
def tuningEntries (e1 e2 e3 e4 e5 : TuningFields) : PerZone Tuning :=
  { z1 := tuningOf e1, z2 := tuningOf e2, z3 := tuningOf e3, z4 := tuningOf e4, z5 := tuningOf e5 }

section

variable {s : State} {x tag : Byte} {b : Fin 8} {e1 e2 e3 e4 e5 : TuningFields}

theorem loadTuning_of_bad_bank (hx : bankOf x.toNat = none) :
    s.loadTuning x e1 e2 e3 e4 e5 = (s, .no .badField 1) := by
  simp [State.loadTuning, hx]

theorem loadTuning_of_bad_field {n : Nat} (hx : bankOf x.toNat = some b)
    (hfail : firstFail (boundChecks 2 (tuningBounds [e1, e2, e3, e4, e5])) = some n) :
    s.loadTuning x e1 e2 e3 e4 e5 = (s, .no .badField n) := by
  have hchecks : firstFail (tuningChecks 2 e1 ++ tuningChecks 5 e2 ++ tuningChecks 8 e3 ++ tuningChecks 11 e4 ++
      tuningChecks 14 e5) = some n := hfail
  simp only [State.loadTuning, hx, hchecks]

theorem loadTuning_of_inRange (hx : bankOf x.toNat = some b)
    (hpass : firstFail (boundChecks 2 (tuningBounds [e1, e2, e3, e4, e5])) = none) :
    ∃ a, s.loadTuning x e1 e2 e3 e4 e5 = (bankLoaded s b (tuningEntries e1 e2 e3 e4 e5), a) := by
  have hchecks : firstFail (tuningChecks 2 e1 ++ tuningChecks 5 e2 ++ tuningChecks 8 e3 ++ tuningChecks 11 e4 ++
      tuningChecks 14 e5) = none := hpass
  refine ⟨.one (u8 b.val ++ u8 (Tube.list.filter fun t => (s.run.get t).bank = b).length), ?_⟩
  simp only [State.loadTuning, hx, hchecks]
  rfl

theorem exec_loadTuning {s' : State} {a : Answer} (h : s.canTake = true)
    (hs : s.loadTuning x e1 e2 e3 e4 e5 = (s', a)) :
    exec (.loadTuning tag x e1 e2 e3 e4 e5) s = .next (s'.replied (.loadTuning x e1 e2 e3 e4 e5) tag a) :=
  host_of_serve h (decode_loadTuning x e1 e2 e3 e4 e5) hs

end

theorem bankOf_eq_none {n : Nat} (h : 8 ≤ n) : bankOf n = none := dif_neg (Nat.not_lt.2 h)

theorem bankOf_of_le {n : Nat} (h : n ≤ 7) : ∃ b, bankOf n = some b := ⟨_, dif_pos (Nat.lt_succ_of_le h)⟩

theorem banks_bankLoaded (s : State) (b : Fin 8) (entries : PerZone Tuning) :
    (bankLoaded s b entries).banks = s.banks.set b.val entries b.isLt := (bankLoaded_written s b entries).banks

theorem bankLoaded_frame (s : State) (b : Fin 8) (entries : PerZone Tuning) : bankLoaded s b entries =
    { s with banks := (bankLoaded s b entries).banks, thermal := (bankLoaded s b entries).thermal,
             alloc := (bankLoaded s b entries).alloc } := by
  conv_lhs => rw [(bankLoaded_written s b entries).rest]
  rw [banks_bankLoaded, (bankLoaded_written s b entries).rest]

/-- Settles O41: the bank is written and its users' demands are limited to it, or the first field out of range is
refused. -/
theorem loadTuningWritesTheBankAndLimits : Obligations.LoadTuningWritesTheBankAndLimits := by
  refine ⟨fun s tag x e1 e2 e3 e4 e5 h => ⟨fun hx => ?_, fun b hx hrange => ?_⟩,
    fun s tag x e1 e2 e3 e4 e5 pre post v limit h hx hfields hpre hv => ?_⟩
  · exact exec_loadTuning h (loadTuning_of_bad_bank (bankOf_eq_none hx))
  · have hpass : ∀ p ∈ tuningBounds [e1, e2, e3, e4, e5], p.1.toNat ≤ p.2 := by
      intro p hp
      obtain ⟨e, he, hp⟩ := List.mem_flatMap.1 hp
      obtain ⟨hkp, hki, hlmax⟩ := hrange e he
      simp only [List.mem_cons, List.not_mem_nil, or_false] at hp
      obtain rfl | rfl | rfl := hp
      · exact hkp
      · exact hki
      · exact hlmax
    obtain ⟨a, hload⟩ := loadTuning_of_inRange (s := s) hx (firstFail_boundChecks_none (n := 2) hpass)
    have hbanks := banks_bankLoaded s b (tuningEntries e1 e2 e3 e4 e5)
    have hzone := heater_bankLoaded s b (tuningEntries e1 e2 e3 e4 e5)
    have hframe := bankLoaded_frame s b (tuningEntries e1 e2 e3 e4 e5)
    have hwritten := bankLoaded_written s b (tuningEntries e1 e2 e3 e4 e5)
    have hentries : (bankLoaded s b (tuningEntries e1 e2 e3 e4 e5)).banks[b] = tuningEntries e1 e2 e3 e4 e5 := by
      rw [hbanks]
      simp
    refine ⟨_, exec_loadTuning h hload, hentries, fun c hc => ?_, fun t ht z hz => ?_, fun t ht => ?_, ?_⟩
    · have hne : (b : Nat) ≠ (c : Nat) := fun e => hc (Fin.ext e.symm)
      show (bankLoaded s b (tuningEntries e1 e2 e3 e4 e5)).banks[c] = s.banks[c]
      rw [hbanks]
      simp [hne]
    · have hlimited := congrArg Prod.fst ((hzone t z).trans (if_pos ⟨ht, hz⟩))
      rw [limited_fst] at hlimited
      rw [show (State.replied _ (.loadTuning x e1 e2 e3 e4 e5) tag a).banks[b] = _ from hentries]
      exact hlimited
    · exact hwritten.block_of_zones fun z => (hzone t z).trans (if_neg fun e => ht e.1)
    · generalize bankLoaded s b (tuningEntries e1 e2 e3 e4 e5) = n at hframe
      rw [hframe]
      exact ⟨rfl, rfl, rfl, rfl, rfl, rfl, rfl, rfl⟩
  · obtain ⟨b, hb⟩ := bankOf_of_le hx
    have hbounds : tuningBounds [e1, e2, e3, e4, e5] = pre ++ (v, limit) :: post := hfields
    exact exec_loadTuning h (loadTuning_of_bad_field hb (hbounds ▸ firstFail_boundChecks_some hpre hv))

end Sys2Proof.ZoneControl

/-! SUPPORT. The arrival of a sample: what it writes, how the three conditions of its zone are judged, and what the event that
follows leaves of both (R48 to R51, R63, R81). -/

namespace Sys2Proof.ZoneSamples

open Sys2Proof.Machine Sys2Proof.ZoneRules Sys2Proof.ZoneInvariants Sys2Proof.ZoneEvents

/-! ### The conditions, read of the samples (R49 to R51) -/

theorem open?_iff (x : Sample) : x.open? = true ↔ x = .isOpen := by
  cases x <;> simp [Sample.open?]

theorem above_iff (x : Sample) (m : Nat) : x.above m = true ↔ ∃ v, x = .temp v ∧ m < v := by
  cases x <;> simp [Sample.above]

theorem tcOpenHolds_iff (r : ZoneRec) : r.tcOpenHolds = true ↔ r.profile = .isOpen ∨ r.spike = .isOpen := by
  simp only [ZoneRec.tcOpenHolds, Bool.or_eq_true, open?_iff]

theorem overtempHolds_iff (r : ZoneRec) (cfg : TubeConfig) : r.overtempHolds cfg = true ↔
    (∃ x, r.profile = .temp x ∧ cfg.maxTemp < x) ∨ ∃ x, r.spike = .temp x ∧ cfg.elementLimit < x := by
  simp only [ZoneRec.overtempHolds, Bool.or_eq_true, above_iff]

/-- The difference of two samples that are both temperatures. -/
def apart : Sample → Sample → Option Nat
  | .temp x, .temp y => some (Sys2Proof.dist x y)
  | _, _ => none

theorem disagreement_eq (r : ZoneRec) :
    r.disagreement = if r.profile.above 4000 then apart r.profile r.spike else none := by
  unfold ZoneRec.disagreement
  cases r.profile <;> cases r.spike <;> simp [Sample.above, apart]

theorem disagreeHolds_eq (r : ZoneRec) (cfg : TubeConfig) : r.disagreeHolds cfg =
    (r.profile.above 4000 && decide (∃ d ∈ apart r.profile r.spike, cfg.disagreeLimit < d)) := by
  rw [ZoneRec.disagreeHolds, disagreement_eq]
  cases r.profile.above 4000 <;> cases apart r.profile r.spike <;> simp

theorem disagreeHolds_iff (r : ZoneRec) (cfg : TubeConfig) : r.disagreeHolds cfg = true ↔
    ∃ x y, r.profile = .temp x ∧ r.spike = .temp y ∧ 4000 < x ∧ cfg.disagreeLimit < Sys2Proof.dist x y := by
  rw [disagreeHolds_eq]
  cases r.profile <;> cases r.spike <;> simp [Sample.above, apart]

/-! ### What an arrival writes (R48, R49, R63, R81) -/

/-- The bank after the samples of a zone have been written, the zone shut or not. -/
def written (s : State) (t : Tube) (z : Zone) (p q : Sample) (shut : Bool) : State :=
  let old := (s.thermal.get t).zones.get z
  { s with
    thermal := s.thermal.set t { s.thermal.get t with
      zones := (s.thermal.get t).zones.set z
        { old with profile := p, spike := q, demand := if shut then 0 else old.demand } }
    alloc := if shut then
        { s.alloc with zones := s.alloc.zones.set t ((s.alloc.zones.get t).set z
            { (s.alloc.zones.get t).get z with firing := 0 }) }
      else s.alloc }

/-- A demand of 0 published shuts the zone's firing (R81). -/
theorem lowerFiring_zero (a : Alloc) (t : Tube) (z : Zone) :
    a.lowerFiring t z 0 = a.setZone t z { a.zone t z with firing := 0 } := by
  unfold Alloc.lowerFiring
  split
  · rfl
  next h =>
    have hzero : (a.zone t z).firing = 0 := by omega
    have hsame : ({ a.zone t z with firing := 0 } : AllocZone) = (a.zones.get t).get z := by
      rw [← hzero]
      rfl
    rw [hsame]
    simp [Alloc.setZone]

theorem publishZero_eq (s : State) (t : Tube) (z : Zone) (p : Sample) :
    (s.setThermal t ((s.thermal.get t).setZone z { (s.thermal.get t).zones.get z with profile := p })).publishDemand
      t z 0 = written s t z p ((s.thermal.get t).zones.get z).spike true := by
  simp [State.publishDemand, State.setThermal, ThermalRec.setZone, written, lowerFiring_zero]
  rfl

theorem writeSample_profile (s : State) (t : Tube) (z : Zone) (v : Sample) : s.writeSample t z .profile v =
    written s t z v ((s.thermal.get t).zones.get z).spike (decide (v = .isOpen)) := by
  unfold State.writeSample
  by_cases hv : v = .isOpen
  · simp only [hv, and_self, if_true, decide_true]
    exact publishZero_eq s t z .isOpen
  · simp only [hv, and_false, if_false, decide_false]
    rfl

theorem writeSample_spike (s : State) (t : Tube) (z : Zone) (v : Sample) : s.writeSample t z .spike v =
    written s t z ((s.thermal.get t).zones.get z).profile v false := rfl

theorem heater_written_same (s : State) (t : Tube) (z : Zone) (p q : Sample) (shut : Bool) :
    (heater (written s t z p q shut) t z).1 = { (s.thermal.get t).zones.get z with
      profile := p, spike := q, demand := if shut then 0 else ((s.thermal.get t).zones.get z).demand } := by
  simp [heater, written]

theorem heater_written_other (s : State) {t u : Tube} {z y : Zone} (h : u ≠ t ∨ y ≠ z) (p q : Sample) (shut : Bool) :
    (heater (written s t z p q shut) u y).1 = (s.thermal.get u).zones.get y := by
  by_cases hu : u = t
  · subst hu
    have hy : y ≠ z := h.resolve_left fun e => e rfl
    simp [heater, written, PerZone.get_set_other _ hy]
  · simp [heater, written, PerTube.get_set_other _ hu]

/-! ### The judgement, and the event after it -/

theorem judged_judgeSamples (t : Tube) (z : Zone) (c : Ctx) : judged (taskJudgeSamples t z c).1.s t z := by
  have hsame : (heater (taskJudgeSamples t z c).1.s t z).1 =
      { (heater c.s t z).1 with
        tcOpen := (heater c.s t z).1.tcOpenHolds
        overtemp := (heater c.s t z).1.overtempHolds (c.s.tubeConfig t)
        disagree := (heater c.s t z).1.disagreeHolds (c.s.tubeConfig t) } := by
    simp [heater, taskJudgeSamples, ThermalRec.setZone]
  rw [judged, hsame]
  exact ⟨rfl, rfl, rfl⟩

theorem eventOf_eased (s : State) (ks : List Task) : Eased s (s.eventOf ks) :=
  runTasks_eased Config.cascadeBound ks (Ctx.start s false)

/-- In the state after the event of a judgement the zone's conditions stand as its samples say. -/
theorem judged_eventOf (s : State) (t : Tube) (z : Zone) : judged (s.eventOf [.judgeSamples t z]) t z :=
by
  rw [State.eventOf_single]
  exact (runTasks_eased _ _ _).conditions t z (judged_judgeSamples t z (Ctx.start s false))

/-- What the event of a judgement leaves: the samples as they were, the conditions as they say (R49 to R51). -/
theorem eventOf_judgeSamples (s : State) (t : Tube) (z : Zone) :
    let r := (heater s t z).1
    let n := (heater (s.eventOf [.judgeSamples t z]) t z).1
    (n.tcOpen = true ↔ r.profile = .isOpen ∨ r.spike = .isOpen) ∧
    (n.overtemp = true ↔ (∃ x, r.profile = .temp x ∧ (s.tubeConfig t).maxTemp < x) ∨
      ∃ x, r.spike = .temp x ∧ (s.tubeConfig t).elementLimit < x) ∧
    (n.disagree = true ↔ ∃ x y, r.profile = .temp x ∧ r.spike = .temp y ∧ 4000 < x ∧
      (s.tubeConfig t).disagreeLimit < Sys2Proof.dist x y) := by
  have heased := eventOf_eased s [.judgeSamples t z]
  obtain ⟨hopen, hover, hdiff⟩ := judged_eventOf s t z
  obtain ⟨hprofile, hspike⟩ := heased.samples t z
  have hconfig : (s.eventOf [.judgeSamples t z]).tubeConfig t = s.tubeConfig t :=
    congrArg (fun c => c.tubes.get t) heased.config
  dsimp only
  rw [hopen, hover, hdiff, tcOpenHolds_iff, overtempHolds_iff, disagreeHolds_iff, hprofile, hspike, hconfig]
  exact ⟨Iff.rfl, Iff.rfl, Iff.rfl⟩

/-! ### The arrival (R46, R48) -/

/-- One equation for both thermocouples: only an open profile sample shuts the zone. -/
theorem writeSample_eq (s : State) (t : Tube) (z : Zone) (tc : Thermocouple) (v : Sample) :
    s.writeSample t z tc v = written s t z (if tc = .profile then v else ((s.thermal.get t).zones.get z).profile)
      (if tc = .spike then v else ((s.thermal.get t).zones.get z).spike) (decide (tc = .profile ∧ v = .isOpen)) := by
  cases tc with
  | profile => simpa using writeSample_profile s t z v
  | spike => simpa using writeSample_spike s t z v

theorem readingSample_open_iff (v : Reading) : readingSample v = .isOpen ↔ v = .isOpen := by
  cases v <;> simp [readingSample]

theorem readingSample_eq (v : Reading) : readingSample v = match v with
    | .isOpen => .isOpen
    | .temp x => .temp (min 14000 x) := by
  cases v with
  | isOpen => rfl
  | temp x => exact congrArg Sample.temp (Nat.min_comm x 14000)

/-- What the arrival of a reading writes. -/
theorem writeSample_reading (s : State) (t : Tube) (z : Zone) (tc : Thermocouple) (v : Reading) :
    let w : Sample := match v with
      | .isOpen => .isOpen
      | .temp x => .temp (min 14000 x)
    s.writeSample t z tc (readingSample v) =
      written s t z (if tc = .profile then w else ((s.thermal.get t).zones.get z).profile)
        (if tc = .spike then w else ((s.thermal.get t).zones.get z).spike) (decide (tc = .profile ∧ v = .isOpen)) := by
  simp only [writeSample_eq, readingSample_open_iff]
  rw [readingSample_eq]

section

variable {s : State} {t : Tube} {z : Zone} {tc : Thermocouple} {v : Reading}

theorem exec_sampleArrival (hreset : s.inReset = false) :
    exec (.sampleArrival t z tc v) s = .next (s.sampleArrival t z tc v) :=
  State.act_eq hreset _

theorem exec_sampleArrival_inactive (hreset : s.inReset = false) (h : (s.tubeConfig t).activeZones < z.number) :
    exec (.sampleArrival t z tc v) s = .next s := by
  rw [exec_sampleArrival hreset, State.sampleArrival, if_neg (Nat.not_le.mpr h)]

theorem exec_sampleArrival_offline (hreset : s.inReset = false) (h : z.number ≤ (s.tubeConfig t).activeZones)
    (hoff : (s.thermal.get t).runState = .offline) :
    exec (.sampleArrival t z tc v) s = .next (s.writeSample t z tc (readingSample v)) := by
  rw [exec_sampleArrival hreset, State.sampleArrival, if_pos h, if_pos hoff]
  rfl

theorem exec_sampleArrival_judged (hreset : s.inReset = false) (h : z.number ≤ (s.tubeConfig t).activeZones)
    (hon : (s.thermal.get t).runState ≠ .offline) :
    exec (.sampleArrival t z tc v) s =
      .next ((s.writeSample t z tc (readingSample v)).eventOf [.judgeSamples t z]) := by
  rw [exec_sampleArrival hreset, State.sampleArrival, if_pos h, if_neg hon]

end

/-- What stands after the event that judges the samples just written. -/
theorem eventOf_written (s : State) (t : Tube) (z : Zone) (p q : Sample) (shut : Bool) :
    let n := (written s t z p q shut).eventOf [.judgeSamples t z]
    let new := (n.thermal.get t).zones.get z
    new.profile = p ∧ new.spike = q ∧ (shut = true → new.demand = 0) ∧
    (new.tcOpen = true ↔ p = .isOpen ∨ q = .isOpen) ∧
    (new.overtemp = true ↔ (∃ x, p = .temp x ∧ (s.tubeConfig t).maxTemp < x) ∨
      (∃ x, q = .temp x ∧ (s.tubeConfig t).elementLimit < x)) ∧
    (new.disagree = true ↔ ∃ x y, p = .temp x ∧ q = .temp y ∧ 4000 < x ∧
      (s.tubeConfig t).disagreeLimit < Sys2Proof.dist x y) ∧
    (∀ u y, u ≠ t ∨ y ≠ z →
      ((n.thermal.get u).zones.get y).profile = ((s.thermal.get u).zones.get y).profile ∧
      ((n.thermal.get u).zones.get y).spike = ((s.thermal.get u).zones.get y).spike) := by
  have heased := eventOf_eased (written s t z p q shut) [.judgeSamples t z]
  have hjudged := eventOf_judgeSamples (written s t z p q shut) t z
  have hsamples := heased.samples t z
  have hlowered := heased.lowered t z
  rw [heater_written_same] at hjudged hsamples hlowered
  refine ⟨hsamples.1, hsamples.2, fun hshut => ?_, hjudged.1, hjudged.2.1, hjudged.2.2, fun u y hother => ?_⟩
  · rw [hshut] at hlowered ⊢
    exact Nat.le_zero.mp hlowered
  · have hstands := heased.samples u y
    rwa [heater_written_other s hother] at hstands

/-! ### The reports of a judgement (R49 to R51, log entries 18, 45) -/

/-- The temperature of a sample. -/
def value : Sample → Option Nat
  | .temp v => some v
  | _ => none

theorem tcOpenHolds_eq (r : ZoneRec) : r.tcOpenHolds = decide (r.profile = .isOpen ∨ r.spike = .isOpen) := by
  simp [← tcOpenHolds_iff]

/-- The OVERTEMP report is the profile sample's where that exceeds, else the spike's. -/
theorem overtempReport_eq (r : ZoneRec) (cfg : TubeConfig) : overtempReport r cfg =
    if r.profile.above cfg.maxTemp then (value r.profile, some cfg.maxTemp)
    else (value r.spike, some cfg.elementLimit) := rfl

/-- Where TC_DISAGREE holds its report is the difference of the samples. -/
theorem disagreement_of_holds {r : ZoneRec} {cfg : TubeConfig} (h : r.disagreeHolds cfg = true) :
    r.disagreement = apart r.profile r.spike := by
  rw [disagreeHolds_eq, Bool.and_eq_true] at h
  rw [disagreement_eq, if_pos h.1]

/-- The report of a condition, where it is present now and was not before. -/
def report (t : Tube) (z : Zone) (new was : Bool) (k : FaultKind) (measured limit : Option Nat) : List Task :=
  if new && !was then [.detect (detection t k (some z.number) measured limit)] else []

theorem taskJudgeSamples_eq (t : Tube) (z : Zone) (c : Ctx) :
    let cfg := c.s.tubeConfig t
    let old := (c.s.thermal.get t).zones.get z
    let hot := old.profile.above cfg.maxTemp || old.spike.above cfg.elementLimit
    let differ := old.profile.above 4000 && decide (∃ d ∈ apart old.profile old.spike, cfg.disagreeLimit < d)
    let opened := decide (old.profile = .isOpen ∨ old.spike = .isOpen)
    taskJudgeSamples t z c =
      (c.put (c.s.setThermal t ((c.s.thermal.get t).setZone z
        { old with tcOpen := opened, overtemp := hot, disagree := differ })),
        report t z opened old.tcOpen .tcOpen none none ++
        (if old.profile.above cfg.maxTemp then
            report t z hot old.overtemp .overtemp (value old.profile) (some cfg.maxTemp)
          else report t z hot old.overtemp .overtemp (value old.spike) (some cfg.elementLimit)) ++
        report t z differ old.disagree .tcDisagree (apart old.profile old.spike) (some cfg.disagreeLimit)) := by
  intro cfg old hot differ opened
  have hopened : old.tcOpenHolds = opened := tcOpenHolds_eq old
  have hdiffer : old.disagreeHolds cfg = differ := disagreeHolds_eq old cfg
  have hover : (if old.overtempHolds cfg && !old.overtemp then
        [zoneDetection t z .overtemp (overtempReport old cfg).1 (overtempReport old cfg).2] else []) =
      if old.profile.above cfg.maxTemp then
        report t z hot old.overtemp .overtemp (value old.profile) (some cfg.maxTemp)
      else report t z hot old.overtemp .overtemp (value old.spike) (some cfg.elementLimit) := by
    rw [overtempReport_eq]
    by_cases h : old.profile.above cfg.maxTemp = true
    · rw [if_pos h, if_pos h]
      rfl
    · rw [if_neg h, if_neg h]
      rfl
  have hdis : (if old.disagreeHolds cfg && !old.disagree then
        [zoneDetection t z .tcDisagree old.disagreement (some cfg.disagreeLimit)] else []) =
      report t z differ old.disagree .tcDisagree (apart old.profile old.spike) (some cfg.disagreeLimit) := by
    rw [← hdiffer, report]
    by_cases h : old.disagreeHolds cfg = true
    · rw [disagreement_of_holds h]
      rfl
    · simp [h]
  calc taskJudgeSamples t z c
      = (c.put (c.s.setThermal t ((c.s.thermal.get t).setZone z { old with
          tcOpen := old.tcOpenHolds, overtemp := hot, disagree := old.disagreeHolds cfg })),
        report t z old.tcOpenHolds old.tcOpen .tcOpen none none ++
        (if old.overtempHolds cfg && !old.overtemp then
          [zoneDetection t z .overtemp (overtempReport old cfg).1 (overtempReport old cfg).2] else []) ++
        (if old.disagreeHolds cfg && !old.disagree then
          [zoneDetection t z .tcDisagree old.disagreement (some cfg.disagreeLimit)] else [])) := rfl
    _ = _ := by rw [hover, hdis, hopened, hdiffer]

/-- Settles O40: the bank after the writing is named, the judgement's event eases it, and its reports are read of the samples. -/
theorem sampleArrivalIsWrittenAndJudged : Obligations.SampleArrivalIsWrittenAndJudged := by
  unfold Obligations.SampleArrivalIsWrittenAndJudged
  refine ⟨fun s t z tc v hreset => ?_, fun c t z => ?_⟩
  · have harrived := writeSample_reading s t z tc v
    refine ⟨exec_sampleArrival_inactive hreset, fun hz hoff => ?_, fun hz hon => ?_⟩
    · rw [exec_sampleArrival_offline hreset hz hoff, harrived]
      rfl
    · rw [exec_sampleArrival_judged hreset hz hon, harrived]
      exact ⟨_, rfl, rfl, eventOf_written ..⟩
  · exact taskJudgeSamples_eq t z c

end Sys2Proof.ZoneSamples

/-! SUPPORT. Serving one power class (R77 to R79): the grants of a class, the odd watts handed round from its pointer, and what
an allocation pass has dealt to the three classes once all of them are served. -/

namespace Sys2Proof.PowerClasses

open Sys2Proof.Machine Sys2Proof.ZoneRules Sys2Proof.ZoneWork

/-! ### The sum over a class -/

theorem inClass_iff {v : AllocZone} {k : PowerClass} : v.inClass k = true ↔ v.part = true ∧ v.cls = k := by
  simp [AllocZone.inClass]

/-- The sum over a class depends on the zones of the class only. -/
theorem classSum_congr {a b : Alloc} {k : PowerClass} {f g : AllocZone → Nat}
    (hclass : ∀ t z, (b.zone t z).inClass k = (a.zone t z).inClass k)
    (hval : ∀ t z, (a.zone t z).inClass k = true → g (b.zone t z) = f (a.zone t z)) :
    b.classSum k g = a.classSum k f := by
  refine congrArg List.sum (List.map_congr_left fun p _ => ?_)
  rw [hclass]
  split
  next h => exact hval _ _ h
  next => rfl

/-- The zone positions of a class. -/
def members (a : Alloc) (k : PowerClass) : Finset (Tube × Zone) :=
  bankPositions.toFinset.filter fun p => (a.zone p.1 p.2).inClass k = true

theorem mem_members {a : Alloc} {k : PowerClass} {p : Tube × Zone} :
    p ∈ members a k ↔ (a.zone p.1 p.2).inClass k = true := by
  simp [members, mem_bankPositions]

theorem classSum_eq (a : Alloc) (k : PowerClass) (f : AllocZone → Nat) :
    a.classSum k f = ∑ p ∈ members a k, f (a.zone p.1 p.2) := by
  rw [members, Finset.sum_filter, List.sum_toFinset _ nodup_bankPositions]
  rfl

/-! ### The odd watts (R79) -/

theorem nodup_rotated (ptr : Nat) : (rotated ptr).Nodup := by
  rw [rotated, List.nodup_append_comm, List.take_append_drop]
  exact nodup_bankPositions

theorem mem_rotated (ptr : Nat) (p : Tube × Zone) : p ∈ rotated ptr := by
  rw [rotated, List.mem_append, or_comm, ← List.mem_append, List.take_append_drop]
  exact mem_bankPositions p

/-- The positions, in the order of a list, of the zones of a class whose floor lies below their demand. -/
def owed (a : Alloc) (k : PowerClass) (floor : AllocZone → Nat) (ps : List (Tube × Zone)) : List (Tube × Zone) :=
  ps.filter fun p => (a.zone p.1 p.2).inClass k && decide (floor (a.zone p.1 p.2) < (a.zone p.1 p.2).watts)

theorem owed_congr {a b : Alloc} {k : PowerClass} {f g : AllocZone → Nat} {ps : List (Tube × Zone)}
    (hclass : ∀ p ∈ ps, (b.zone p.1 p.2).inClass k = (a.zone p.1 p.2).inClass k)
    (hwatts : ∀ p ∈ ps, (b.zone p.1 p.2).watts = (a.zone p.1 p.2).watts)
    (hfloor : ∀ p ∈ ps, (a.zone p.1 p.2).inClass k = true → g (b.zone p.1 p.2) = f (a.zone p.1 p.2)) :
    owed b k g ps = owed a k f ps := by
  refine List.filter_congr fun p hp => ?_
  rw [hclass p hp, hwatts p hp]
  by_cases h : (a.zone p.1 p.2).inClass k = true
  · rw [hfloor p hp h]
  · simp [h]

/-- A zone written at a position outside the list. -/
theorem owed_setZone {a : Alloc} {k : PowerClass} {floor : AllocZone → Nat} {p : Tube × Zone} {ps : List (Tube × Zone)}
    (hp : p ∉ ps) (v : AllocZone) : owed (a.setZone p.1 p.2 v) k floor ps = owed a k floor ps := by
  have hsame : ∀ q ∈ ps, (a.setZone p.1 p.2 v).zone q.1 q.2 = a.zone q.1 q.2 := fun q hq =>
    alloc_setZone_other a (fun e => hp ((Prod.ext e.1 e.2 : q = p) ▸ hq)) v
  exact owed_congr (fun q hq => by rw [hsame q hq]) (fun q hq => by rw [hsame q hq])
    (fun q hq _ => by rw [hsame q hq])

/-- Handing out writes zone records alone, and each of the first `n` zones owed a watt receives one. -/
theorem handOut_spec (k : PowerClass) {ps : List (Tube × Zone)} (hps : ps.Nodup) (n : Nat) (a : Alloc) :
    handOut k ps n a = { a with zones := (handOut k ps n a).zones } ∧
    ∀ t z, (handOut k ps n a).zone t z = { a.zone t z with
      grant := (a.zone t z).grant + if (t, z) ∈ (owed a k AllocZone.grant ps).take n then 1 else 0 } := by
  induction ps generalizing n a with
  | nil => exact ⟨rfl, fun t z => by simp [handOut, owed]⟩
  | cons p ps ih =>
    obtain ⟨hp, hps⟩ := List.nodup_cons.1 hps
    cases n with
    | zero => exact ⟨rfl, fun t z => by simp [handOut]⟩
    | succ n =>
      unfold handOut
      dsimp only
      split
      next hgets =>
        have hfirst : owed a k AllocZone.grant (p :: ps) = p :: owed a k AllocZone.grant ps :=
          List.filter_cons_of_pos hgets
        obtain ⟨hrest, hzone⟩ := ih hps n
          (a.setZone p.1 p.2 { a.zone p.1 p.2 with grant := (a.zone p.1 p.2).grant + 1 })
        refine ⟨by rw [hrest]; rfl, fun t z => ?_⟩
        rw [hzone, owed_setZone hp, hfirst, List.take_succ_cons]
        by_cases hq : (t, z) = p
        · subst hq
          have hnot : (t, z) ∉ (owed a k AllocZone.grant ps).take n := fun h =>
            hp (List.mem_of_mem_filter (List.mem_of_mem_take h))
          simp [alloc_setZone_same, hnot]
        · rw [alloc_setZone_other a (fun e => hq (Prod.ext e.1 e.2))]
          simp [hq]
      next hgets =>
        have hfirst : owed a k AllocZone.grant (p :: ps) = owed a k AllocZone.grant ps :=
          List.filter_cons_of_neg hgets
        rw [hfirst]
        exact ih hps (n + 1) a

/-- A zone's share of a remainder, rounded down. -/
def share (r sum : Nat) (v : AllocZone) : Nat := v.watts * r / sum

/-- The zones of a class owed an odd watt, from the pointer's position upward and round. -/
def oddTakers (a : Alloc) (k : PowerClass) (ptr r : Nat) : List (Tube × Zone) :=
  owed a k (share r (a.classSum k AllocZone.watts)) (rotated ptr)

/-- The odd watts of a class: what the rounded shares leave of the remainder. -/
def oddWatts (a : Alloc) (k : PowerClass) (r : Nat) : Nat :=
  r - a.classSum k (share r (a.classSum k AllocZone.watts))

/-- The grant of a zone of a short class. -/
def shortGrant (a : Alloc) (k : PowerClass) (ptr r : Nat) (t : Tube) (z : Zone) : Nat :=
  share r (a.classSum k AllocZone.watts) (a.zone t z) +
    if (t, z) ∈ (oddTakers a k ptr r).take (oddWatts a k r) then 1 else 0

section

variable {a : Alloc} {k : PowerClass} {r : Nat}

/-- The rounded shares of a short class do not exceed the remainder. -/
theorem classSum_share_le (hshort : r < a.classSum k AllocZone.watts) :
    a.classSum k (share r (a.classSum k AllocZone.watts)) ≤ r := by
  generalize hsum : a.classSum k AllocZone.watts = sum at hshort
  have hmul : sum * a.classSum k (share r sum) ≤ sum * r := by
    rw [classSum_eq, Finset.mul_sum, ← hsum, classSum_eq, Finset.sum_mul, ← classSum_eq]
    exact Finset.sum_le_sum fun p _ => Nat.mul_div_le _ _
  exact Nat.le_of_mul_le_mul_left hmul (by omega)

/-- A zone's rounded share, with one watt more where it is owed one, covers its exact share. -/
theorem exact_share_le {v : AllocZone} {sum : Nat} (hshort : r < sum) :
    v.watts * r ≤ sum * (share r sum v + if share r sum v < v.watts then 1 else 0) := by
  split
  next => exact Nat.le_of_lt (Nat.lt_mul_div_succ _ (by omega))
  next h =>
    have hall : v.watts ≤ share r sum v := Nat.not_lt.1 h
    calc v.watts * r ≤ v.watts * sum := Nat.mul_le_mul_left _ (Nat.le_of_lt hshort)
      _ ≤ share r sum v * sum := Nat.mul_le_mul_right _ hall
      _ = sum * (share r sum v + 0) := Nat.mul_comm _ _

theorem mem_oddTakers {ptr : Nat} {p : Tube × Zone} : p ∈ oddTakers a k ptr r ↔ p ∈ members a k ∧
    share r (a.classSum k AllocZone.watts) (a.zone p.1 p.2) < (a.zone p.1 p.2).watts := by
  simp [oddTakers, owed, mem_rotated, mem_members]

theorem nodup_oddTakers (ptr : Nat) : (oddTakers a k ptr r).Nodup := (nodup_rotated ptr).filter _

/-- There are zones enough to take the odd watts. -/
theorem oddWatts_le (ptr : Nat) (hshort : r < a.classSum k AllocZone.watts) :
    oddWatts a k r ≤ (oddTakers a k ptr r).length := by
  have hcount : (oddTakers a k ptr r).length = ∑ p ∈ members a k,
      if share r (a.classSum k AllocZone.watts) (a.zone p.1 p.2) < (a.zone p.1 p.2).watts then 1 else 0 := by
    rw [← Finset.card_filter, ← List.toFinset_card_of_nodup (nodup_oddTakers ptr)]
    congr 1
    ext p
    simp [mem_oddTakers]
  rw [oddWatts, hcount]
  generalize hsum : a.classSum k AllocZone.watts = sum at hshort ⊢
  rw [Nat.sub_le_iff_le_add', classSum_eq, ← Finset.sum_add_distrib]
  have hpos : 0 < sum := by omega
  refine Nat.le_of_mul_le_mul_left ?_ hpos
  calc sum * r = ∑ p ∈ members a k, (a.zone p.1 p.2).watts * r := by rw [← hsum, classSum_eq, Finset.sum_mul]
    _ ≤ _ := by
      rw [Finset.mul_sum]
      exact Finset.sum_le_sum fun p _ => exact_share_le hshort

/-- The grants of a short class add up to the remainder. -/
theorem sum_shortGrant (ptr : Nat) (hshort : r < a.classSum k AllocZone.watts) :
    ∑ p ∈ members a k, shortGrant a k ptr r p.1 p.2 = r := by
  have htakers : (members a k).filter (· ∈ (oddTakers a k ptr r).take (oddWatts a k r)) =
      ((oddTakers a k ptr r).take (oddWatts a k r)).toFinset := by
    ext p
    rw [Finset.mem_filter, List.mem_toFinset]
    exact and_iff_right_of_imp fun h => (mem_oddTakers.1 (List.mem_of_mem_take h)).1
  have hodd : ∑ p ∈ members a k, (if p ∈ (oddTakers a k ptr r).take (oddWatts a k r) then 1 else 0) =
      oddWatts a k r := by
    rw [← Finset.card_filter, htakers, List.toFinset_card_of_nodup ((nodup_oddTakers ptr).sublist (List.take_sublist ..)),
      List.length_take, Nat.min_eq_left (oddWatts_le ptr hshort)]
  have hfloors := classSum_share_le hshort
  calc ∑ p ∈ members a k, shortGrant a k ptr r p.1 p.2
      = a.classSum k (share r (a.classSum k AllocZone.watts)) + oddWatts a k r := by
        rw [classSum_eq a k (share _ _), ← hodd, ← Finset.sum_add_distrib]
        rfl
    _ = r := Nat.add_sub_of_le hfloors

/-- No grant of a short class exceeds the zone's demand. -/
theorem shortGrant_le (ptr : Nat) (hshort : r < a.classSum k AllocZone.watts) (t : Tube) (z : Zone) :
    shortGrant a k ptr r t z ≤ (a.zone t z).watts := by
  unfold shortGrant
  split
  next htaken => exact (mem_oddTakers.1 (List.mem_of_mem_take htaken)).2
  next =>
    exact Nat.div_le_of_le_mul (by rw [Nat.mul_comm]; exact Nat.mul_le_mul_right _ (Nat.le_of_lt hshort))

end

/-! ### Serving a class (R78, R79) -/

/-- A class served from the remainder `r`, its pointer having stood at `ptr`: granted in full where its demands fit, and else
its shares rounded down and the odd watts. -/
structure Served (ptr : Nat) (k : PowerClass) (r : Nat) (a : Alloc) : Prop where
  ample : a.classSum k AllocZone.watts ≤ r →
    (∀ t z, (a.zone t z).inClass k = true → (a.zone t z).grant = (a.zone t z).watts) ∧
    a.results.get k = { demand := a.classSum k AllocZone.watts, granted := a.classSum k AllocZone.watts, short := false } ∧
    a.pointers.get k = ptr
  short : r < a.classSum k AllocZone.watts →
    (∀ t z, (a.zone t z).inClass k = true → (a.zone t z).grant = shortGrant a k ptr r t z) ∧
    a.results.get k = { demand := a.classSum k AllocZone.watts, granted := r, short := true } ∧
    a.pointers.get k = nextPointer ptr

section

variable {a b : Alloc} {k : PowerClass} {ptr r : Nat}

/-- The grants of a served class add up to its demands, or to the remainder where they exceed it. -/
theorem Served.granted (h : Served ptr k r a) : a.grantedTo k = min (a.classSum k AllocZone.watts) r := by
  rw [Alloc.grantedTo, classSum_eq a k fun v => v.grant]
  obtain hample | hshort := le_or_gt (a.classSum k AllocZone.watts) r
  · rw [Nat.min_eq_left hample, classSum_eq]
    exact Finset.sum_congr rfl fun p hp => (h.ample hample).1 _ _ (mem_members.1 hp)
  · rw [Nat.min_eq_right (Nat.le_of_lt hshort), ← sum_shortGrant ptr hshort]
    exact Finset.sum_congr rfl fun p hp => (h.short hshort).1 _ _ (mem_members.1 hp)

/-- No zone of a served class is granted more than its demand. -/
theorem Served.grant_le (h : Served ptr k r a) {t : Tube} {z : Zone} (hz : (a.zone t z).inClass k = true) :
    (a.zone t z).grant ≤ (a.zone t z).watts := by
  obtain hample | hshort := le_or_gt (a.classSum k AllocZone.watts) r
  · exact Nat.le_of_eq ((h.ample hample).1 t z hz)
  · rw [(h.short hshort).1 t z hz]
    exact shortGrant_le ptr hshort t z

/-- `b` enrols the zones of `a` in the same classes with the same demands. -/
structure SameDemands (a b : Alloc) : Prop where
  part : ∀ t z, (b.zone t z).part = (a.zone t z).part
  cls : ∀ t z, (b.zone t z).cls = (a.zone t z).cls
  watts : ∀ t z, (b.zone t z).watts = (a.zone t z).watts

theorem SameDemands.inClass (h : SameDemands a b) (k : PowerClass) (t : Tube) (z : Zone) :
    (b.zone t z).inClass k = (a.zone t z).inClass k := by
  simp [AllocZone.inClass, h.part, h.cls]

theorem SameDemands.classSum (h : SameDemands a b) (k : PowerClass) :
    b.classSum k AllocZone.watts = a.classSum k AllocZone.watts :=
  classSum_congr (h.inClass k) fun t z _ => h.watts t z

theorem SameDemands.shortGrant (h : SameDemands a b) (k : PowerClass) (ptr r : Nat) (t : Tube) (z : Zone) :
    shortGrant b k ptr r t z = shortGrant a k ptr r t z := by
  have hshare : ∀ t z sum, share r sum (b.zone t z) = share r sum (a.zone t z) := fun t z sum => by
    rw [share, share, h.watts]
  have htakers : oddTakers b k ptr r = oddTakers a k ptr r := by
    rw [oddTakers, oddTakers, h.classSum]
    exact owed_congr (fun p _ => h.inClass k _ _) (fun p _ => h.watts _ _) (fun p _ _ => hshare _ _ _)
  have hodd : oddWatts b k r = oddWatts a k r := by
    rw [oddWatts, oddWatts, h.classSum, classSum_congr (h.inClass k) fun t z _ => hshare t z _]
  rw [PowerClasses.shortGrant, PowerClasses.shortGrant, h.classSum, hshare, htakers, hodd]

theorem sameDemands_of_grantsOnly (h : grantsOnly a b) : SameDemands a b :=
  ⟨fun t z => by rw [h t z], fun t z => by rw [h t z], fun t z => by rw [h t z]⟩

/-- A class stays served while its zones, its result and its pointer stand. -/
theorem Served.congr (h : Served ptr k r a) (hdemands : SameDemands a b)
    (hgrants : ∀ t z, (a.zone t z).inClass k = true → (b.zone t z).grant = (a.zone t z).grant)
    (hresult : b.results.get k = a.results.get k) (hpointer : b.pointers.get k = a.pointers.get k) :
    Served ptr k r b := by
  constructor <;> rw [hdemands.classSum, hresult, hpointer]
  · intro hample
    obtain ⟨hzones, hrest⟩ := h.ample hample
    refine ⟨fun t z hz => ?_, hrest⟩
    rw [hdemands.inClass] at hz
    rw [hgrants t z hz, hdemands.watts, hzones t z hz]
  · intro hshort
    obtain ⟨hzones, hrest⟩ := h.short hshort
    refine ⟨fun t z hz => ?_, hrest⟩
    rw [hdemands.inClass] at hz
    rw [hgrants t z hz, hdemands.shortGrant, hzones t z hz]

end

/-- A grant written to each zone of a class. -/
def grantClass (a : Alloc) (k : PowerClass) (f : AllocZone → Nat) : Alloc :=
  a.mapZones fun _ _ v => if v.inClass k then { v with grant := f v } else v

theorem mapZones_frame (a : Alloc) (f : Tube → Zone → AllocZone → AllocZone) :
    a.mapZones f = { a with zones := (a.mapZones f).zones } := by
  unfold Alloc.mapZones
  generalize bankPositions = ps
  induction ps generalizing a with
  | nil => rfl
  | cons p ps ih =>
    rw [List.foldl_cons, ih]
    rfl

theorem mapZones_effective (a : Alloc) (f : Tube → Zone → AllocZone → AllocZone) :
    (a.mapZones f).effective = a.effective := by
  rw [mapZones_frame]

theorem mapZones_results (a : Alloc) (f : Tube → Zone → AllocZone → AllocZone) :
    (a.mapZones f).results = a.results := by
  rw [mapZones_frame]

theorem mapZones_pointers (a : Alloc) (f : Tube → Zone → AllocZone → AllocZone) :
    (a.mapZones f).pointers = a.pointers := by
  rw [mapZones_frame]

theorem grantClass_zone (a : Alloc) (k : PowerClass) (f : AllocZone → Nat) (t : Tube) (z : Zone) :
    (grantClass a k f).zone t z =
      if (a.zone t z).inClass k then { a.zone t z with grant := f (a.zone t z) } else a.zone t z :=
  mapZones_zone ..

theorem grantsOnly_grantClass (a : Alloc) (k : PowerClass) (f : AllocZone → Nat) : grantsOnly a (grantClass a k f) :=
  grantsOnly_mapZones fun t z v => by split <;> rfl

theorem grantClass_frame (a : Alloc) (k : PowerClass) (f : AllocZone → Nat) :
    grantClass a k f = { a with zones := (grantClass a k f).zones } :=
  mapZones_frame a _

theorem sameDemands_grantClass (a : Alloc) (k : PowerClass) (f : AllocZone → Nat) :
    SameDemands a (grantClass a k f) :=
  sameDemands_of_grantsOnly (grantsOnly_grantClass a k f)

/-- The class with its shares rounded down. -/
def floored (a : Alloc) (k : PowerClass) (r : Nat) : Alloc := grantClass a k (share r (a.classSum k AllocZone.watts))

/-- The class with its odd watts handed out. -/
def dealtOut (a : Alloc) (k : PowerClass) (r : Nat) : Alloc :=
  handOut k (rotated (a.pointers.get k)) (oddWatts a k r) (floored a k r)

section

variable {a : Alloc} {k : PowerClass} {r : Nat}

theorem floored_grant {t : Tube} {z : Zone} (h : (a.zone t z).inClass k = true) :
    ((floored a k r).zone t z).grant = share r (a.classSum k AllocZone.watts) (a.zone t z) := by
  rw [floored, grantClass_zone, if_pos h]

theorem floored_frame (a : Alloc) (k : PowerClass) (r : Nat) :
    floored a k r = { a with zones := (floored a k r).zones } :=
  grantClass_frame a k _

theorem dealtOut_frame (a : Alloc) (k : PowerClass) (r : Nat) :
    dealtOut a k r = { a with zones := (dealtOut a k r).zones } := by
  rw [dealtOut, (handOut_spec k (nodup_rotated _) _ _).1, floored_frame]

theorem sameDemands_dealtOut (a : Alloc) (k : PowerClass) (r : Nat) : SameDemands a (dealtOut a k r) :=
  sameDemands_of_grantsOnly ((grantsOnly_grantClass a k _).trans (grantsOnly_handOut k _ _ _))

/-- The zones owed an odd watt are those whose rounded share lies below their demand. -/
theorem owed_floored (a : Alloc) (k : PowerClass) (r : Nat) :
    owed (floored a k r) k AllocZone.grant (rotated (a.pointers.get k)) = oddTakers a k (a.pointers.get k) r :=
  have hdemands := sameDemands_grantClass a k (share r (a.classSum k AllocZone.watts))
  owed_congr (fun _ _ => hdemands.inClass k _ _) (fun _ _ => hdemands.watts _ _) fun _ _ h => floored_grant h

theorem dealtOut_grant {t : Tube} {z : Zone} (h : (a.zone t z).inClass k = true) :
    ((dealtOut a k r).zone t z).grant = shortGrant a k (a.pointers.get k) r t z := by
  rw [dealtOut, (handOut_spec k (nodup_rotated _) _ _).2, owed_floored, shortGrant, floored_grant h]

theorem classSum_dealtOut (hshort : r < a.classSum k AllocZone.watts) :
    (dealtOut a k r).classSum k AllocZone.grant = r := by
  have hmembers : members (dealtOut a k r) k = members a k := by
    ext p
    rw [mem_members, mem_members, (sameDemands_dealtOut a k r).inClass]
  rw [classSum_eq, hmembers]
  calc _ = ∑ p ∈ members a k, shortGrant a k (a.pointers.get k) r p.1 p.2 :=
        Finset.sum_congr rfl fun p hp => dealtOut_grant (mem_members.1 hp)
    _ = r := sum_shortGrant _ hshort

theorem serve_ample (hample : a.classSum k AllocZone.watts ≤ r) :
    let sum := a.classSum k AllocZone.watts
    a.serve k r = ({ grantClass a k AllocZone.watts with
      results := a.results.set k { demand := sum, granted := sum, short := false } }, r - sum) := by
  unfold Alloc.serve
  dsimp only
  rw [if_pos hample]
  rfl

theorem serve_short (hshort : r < a.classSum k AllocZone.watts) :
    let sum := a.classSum k AllocZone.watts
    a.serve k r = ({ dealtOut a k r with
      results := a.results.set k { demand := sum, granted := r, short := true },
      pointers := a.pointers.set k (nextPointer (a.pointers.get k)) }, 0) := by
  have hfloored : (a.mapZones fun _ _ v => if v.inClass k then
      { v with grant := v.watts * r / a.classSum k fun v => v.watts } else v) = floored a k r := rfl
  have hodd : (r - (floored a k r).classSum k fun v => v.grant) = oddWatts a k r := by
    rw [oddWatts, ← classSum_congr ((sameDemands_grantClass a k _).inClass k) fun t z h => floored_grant h]
    rfl
  have hgranted : ((dealtOut a k r).classSum k fun v => v.grant) = r := classSum_dealtOut hshort
  have hpointers : (dealtOut a k r).pointers = a.pointers := by rw [dealtOut_frame]
  have hresults : (dealtOut a k r).results = a.results := by rw [dealtOut_frame]
  unfold Alloc.serve
  dsimp only
  rw [if_neg (Nat.not_le.2 hshort), hfloored, hodd, ← dealtOut, hgranted, hpointers, hresults]

theorem serve_left (a : Alloc) (k : PowerClass) (r : Nat) :
    (a.serve k r).2 = r - a.classSum k AllocZone.watts := by
  obtain hample | hshort := le_or_gt (a.classSum k AllocZone.watts) r
  · rw [serve_ample hample]
  · rw [serve_short hshort, Nat.sub_eq_zero_of_le (Nat.le_of_lt hshort)]

theorem serve_zone_ample (hample : a.classSum k AllocZone.watts ≤ r) (t : Tube) (z : Zone) :
    (a.serve k r).1.zone t z = (grantClass a k AllocZone.watts).zone t z := by
  rw [Alloc.zone, Alloc.zone, serve_ample hample]

theorem serve_zone_short (hshort : r < a.classSum k AllocZone.watts) (t : Tube) (z : Zone) :
    (a.serve k r).1.zone t z = (dealtOut a k r).zone t z := by
  rw [Alloc.zone, Alloc.zone, serve_short hshort]

/-- Serving a class leaves the zones outside it as they were. -/
theorem serve_zone_other {t : Tube} {z : Zone} (h : (a.zone t z).inClass k = false) :
    (a.serve k r).1.zone t z = a.zone t z := by
  have hkept : ∀ f, (grantClass a k f).zone t z = a.zone t z := fun f => by
    rw [grantClass_zone, h, if_neg Bool.false_ne_true]
  obtain hample | hshort := le_or_gt (a.classSum k AllocZone.watts) r
  · rw [serve_zone_ample hample, hkept]
  · have hnot : ∀ n, (t, z) ∉ (oddTakers a k (a.pointers.get k) r).take n := fun n htaken => by
      have htaker := (mem_oddTakers.1 (List.mem_of_mem_take htaken)).1
      simp [mem_members, h] at htaker
    rw [serve_zone_short hshort, dealtOut, (handOut_spec k (nodup_rotated _) _ _).2, owed_floored, if_neg (hnot _),
      floored, hkept, Nat.add_zero]

theorem serve_effective (a : Alloc) (k : PowerClass) (r : Nat) : (a.serve k r).1.effective = a.effective := by
  obtain hample | hshort := le_or_gt (a.classSum k AllocZone.watts) r
  · have hkept : (grantClass a k AllocZone.watts).effective = a.effective := by rw [grantClass_frame]
    rw [serve_ample hample, hkept]
  · have hkept : (dealtOut a k r).effective = a.effective := by rw [dealtOut_frame]
    rw [serve_short hshort, hkept]

theorem serve_result_other {j : PowerClass} (hj : j ≠ k) : (a.serve k r).1.results.get j = a.results.get j := by
  obtain hample | hshort := le_or_gt (a.classSum k AllocZone.watts) r
  · rw [serve_ample hample, PerClass.get_set_other _ hj]
  · rw [serve_short hshort, PerClass.get_set_other _ hj]

theorem serve_pointer_other {j : PowerClass} (hj : j ≠ k) : (a.serve k r).1.pointers.get j = a.pointers.get j := by
  obtain hample | hshort := le_or_gt (a.classSum k AllocZone.watts) r
  · have hkept : (grantClass a k AllocZone.watts).pointers = a.pointers := by rw [grantClass_frame]
    rw [serve_ample hample, hkept]
  · rw [serve_short hshort, PerClass.get_set_other _ hj]

theorem served_serve (a : Alloc) (k : PowerClass) (r : Nat) : Served (a.pointers.get k) k r (a.serve k r).1 := by
  have hdemands : SameDemands a (a.serve k r).1 := sameDemands_of_grantsOnly (grantsOnly_serve a k r)
  constructor <;> rw [hdemands.classSum]
  · intro hample
    have hpointers : (grantClass a k AllocZone.watts).pointers = a.pointers := by rw [grantClass_frame]
    refine ⟨fun t z hz => ?_, ?_, ?_⟩
    · rw [hdemands.inClass] at hz
      rw [hdemands.watts, serve_zone_ample hample, grantClass_zone, if_pos hz]
    · rw [serve_ample hample, PerClass.get_set_same]
    · rw [serve_ample hample, hpointers]
  · intro hshort
    refine ⟨fun t z hz => ?_, ?_, ?_⟩
    · rw [hdemands.inClass] at hz
      rw [hdemands.shortGrant, serve_zone_short hshort, dealtOut_grant hz]
    · rw [serve_short hshort, PerClass.get_set_same]
    · rw [serve_short hshort, PerClass.get_set_same]

/-- A served class stays served while another one is. -/
theorem Served.serve_other {ptr r' : Nat} {j : PowerClass} (h : Served ptr j r' a) (hj : j ≠ k) :
    Served ptr j r' (a.serve k r).1 := by
  have hdemands : SameDemands a (a.serve k r).1 := sameDemands_of_grantsOnly (grantsOnly_serve a k r)
  refine h.congr hdemands (fun t z hz => ?_) (serve_result_other hj) (serve_pointer_other hj)
  have hout : (a.zone t z).inClass k = false := by
    obtain ⟨-, hcls⟩ := inClass_iff.1 hz
    simp [AllocZone.inClass, hcls, hj]
  rw [serve_zone_other hout]

end

/-! ### A whole pass (R75 to R82) -/

/-- The remainder that a class is served from: the budget less what the higher classes demand, or 0 (R78). -/
def remainder (b : Nat) (a : Alloc) : PowerClass → Nat
  | .soak => b
  | .ramp => b - a.classSum .soak AllocZone.watts
  | .other => b - a.classSum .soak AllocZone.watts - a.classSum .ramp AllocZone.watts

theorem SameDemands.remainder {a b : Alloc} (h : SameDemands a b) (r : Nat) (k : PowerClass) :
    remainder r b k = remainder r a k := by
  cases k <;> simp only [PowerClasses.remainder, h.classSum]

/-- The classes served in their order, each from what the one before it has left (R78): SOAK, … -/
def soakServed (a : Alloc) (b : Nat) : Alloc × Nat := a.serve .soak b

/-- … then RAMP, … -/
def rampServed (a : Alloc) (b : Nat) : Alloc × Nat := (soakServed a b).1.serve .ramp (soakServed a b).2

/-- … then OTHER. -/
def allServed (a : Alloc) (b : Nat) : Alloc := ((rampServed a b).1.serve .other (rampServed a b).2).1

section

variable (a : Alloc) (b : Nat)

theorem grantsOnly_soakServed : grantsOnly a (soakServed a b).1 := grantsOnly_serve a .soak b

theorem grantsOnly_rampServed : grantsOnly a (rampServed a b).1 :=
  (grantsOnly_soakServed a b).trans (grantsOnly_serve _ _ _)

theorem grantsOnly_allServed : grantsOnly a (allServed a b) :=
  (grantsOnly_rampServed a b).trans (grantsOnly_serve _ _ _)

theorem soakServed_left : (soakServed a b).2 = remainder b a .ramp := serve_left a .soak b

theorem rampServed_left : (rampServed a b).2 = remainder b a .other := by
  rw [rampServed, serve_left, soakServed_left, (sameDemands_of_grantsOnly (grantsOnly_soakServed a b)).classSum]
  rfl

theorem allServed_effective : (allServed a b).effective = a.effective := by
  rw [allServed, serve_effective, rampServed, serve_effective, soakServed, serve_effective]

/-- A zone that takes part in no class is granted nothing by any. -/
theorem allServed_zone_out {t : Tube} {z : Zone} (h : (a.zone t z).part = false) :
    (allServed a b).zone t z = a.zone t z := by
  have hsoak : (soakServed a b).1.zone t z = a.zone t z := serve_zone_other (by simp [AllocZone.inClass, h])
  have hramp : (rampServed a b).1.zone t z = a.zone t z :=
    (serve_zone_other (by simp [AllocZone.inClass, hsoak, h])).trans hsoak
  exact (serve_zone_other (by simp [AllocZone.inClass, hramp, h])).trans hramp

/-- Every class is served from its own remainder. -/
theorem served_allServed (k : PowerClass) :
    Served (a.pointers.get k) k (remainder b (allServed a b) k) (allServed a b) := by
  rw [(sameDemands_of_grantsOnly (grantsOnly_allServed a b)).remainder]
  cases k with
  | soak =>
    have hserved : Served (a.pointers.get .soak) .soak b (rampServed a b).1 :=
      (served_serve a .soak b).serve_other (by decide)
    exact hserved.serve_other (by decide)
  | ramp =>
    have hserved : Served ((soakServed a b).1.pointers.get .ramp) .ramp (soakServed a b).2 (rampServed a b).1 :=
      served_serve _ _ _
    have hpointer : (soakServed a b).1.pointers.get .ramp = a.pointers.get .ramp := by
      rw [soakServed, serve_pointer_other (by decide)]
    rw [hpointer, soakServed_left] at hserved
    exact hserved.serve_other (by decide)
  | other =>
    have hserved : Served ((rampServed a b).1.pointers.get .other) .other (rampServed a b).2 (allServed a b) :=
      served_serve _ _ _
    have hpointer : (rampServed a b).1.pointers.get .other = a.pointers.get .other := by
      rw [rampServed, serve_pointer_other (by decide), soakServed, serve_pointer_other (by decide)]
    rwa [hpointer, rampServed_left] at hserved

end

/-! ### The pass and its settling (R76 to R82) -/

/-- The allocator with every zone enrolled for a pass and the budget it uses (R75 to R77). -/
def enrolled (s : State) : Alloc := { s.alloc.mapZones s.enrol with effective := s.effectiveBudget }

/-- What a zone of the bank makes of its grant (R80, R82). -/
def settled (s : State) (t : Tube) (z : Zone) (v : AllocZone) : AllocZone :=
  v.settle ((s.thermal.get t).zones.get z).demand ((s.tubeConfig t).rating z) (s.tubeConfig t).starveLimit

/-- The allocator that a pass leaves. -/
def passed (s : State) : Alloc := (allServed (enrolled s) s.effectiveBudget).mapZones (settled s)

theorem allocate_eq (s : State) : s.allocate = s.setAlloc (passed s) := by
  unfold State.allocate passed allServed rampServed soakServed enrolled
  dsimp only
  generalize ({ s.alloc.mapZones s.enrol with effective := s.effectiveBudget } : Alloc) = a
  generalize a.serve .soak s.effectiveBudget = soak
  obtain ⟨a, r⟩ := soak
  dsimp only
  generalize a.serve .ramp r = ramp
  obtain ⟨a, r⟩ := ramp
  dsimp only
  rfl

/-- Settling leaves every zone its class, its demand and its grant. -/
theorem sameDemands_settled (s : State) (a : Alloc) : SameDemands a (a.mapZones (settled s)) := by
  constructor <;> intro t z <;> rw [mapZones_zone, settled, AllocZone.settle] <;> split <;> rfl

theorem settled_grant (s : State) (t : Tube) (z : Zone) (v : AllocZone) : (settled s t z v).grant = v.grant := by
  unfold settled AllocZone.settle
  split <;> rfl

theorem enrolled_zone (s : State) (t : Tube) (z : Zone) :
    (enrolled s).zone t z = s.enrol t z (s.alloc.zone t z) := by
  rw [← mapZones_zone s.alloc s.enrol, Alloc.zone, enrolled, Alloc.zone]

theorem enrolled_pointers (s : State) : (enrolled s).pointers = s.alloc.pointers := by
  rw [enrolled, mapZones_pointers]

section

variable (s : State)

theorem passed_effective : (passed s).effective = s.effectiveBudget := by
  rw [passed, mapZones_effective, allServed_effective, enrolled]

/-- A zone after a pass: enrolled, given a grant, and settled. -/
theorem passed_zone (t : Tube) (z : Zone) : ∃ g,
    (passed s).zone t z = settled s t z { s.enrol t z (s.alloc.zone t z) with grant := g } := by
  refine ⟨((allServed (enrolled s) s.effectiveBudget).zone t z).grant, ?_⟩
  rw [passed, mapZones_zone, ← enrolled_zone]
  exact congrArg _ (grantsOnly_allServed (enrolled s) s.effectiveBudget t z)

/-- Every class is served from its own remainder, and its pointer is moved from where it stood. -/
theorem served_passed (k : PowerClass) :
    Served (s.alloc.pointers.get k) k (remainder s.effectiveBudget (passed s) k) (passed s) := by
  have hserved := served_allServed (enrolled s) s.effectiveBudget k
  have hdemands : SameDemands (allServed (enrolled s) s.effectiveBudget) (passed s) := sameDemands_settled s _
  rw [hdemands.remainder, ← enrolled_pointers]
  refine hserved.congr hdemands (fun t z _ => ?_) ?_ ?_
  · rw [passed, mapZones_zone, settled_grant]
  · rw [passed, mapZones_results]
  · rw [passed, mapZones_pointers]

/-- Which zones take part (R76). -/
theorem takesPart_iff (t : Tube) (z : Zone) : s.takesPart t z = true ↔ (s.tubeConfig t).status = .fitted ∧
    z.number ≤ (s.tubeConfig t).activeZones ∧ (s.thermal.get t).runState ≠ .offline ∧
    (s.thermal.get t).inhibit = .clear := by
  simp [State.takesPart, and_assoc]

theorem enrol_in {t : Tube} {z : Zone} (h : s.takesPart t z = true) (v : AllocZone) : s.enrol t z v = { v with
    part := true
    cls := powerClass (s.thermal.get t).runState ((s.thermal.get t).zones.get z)
    watts := (s.tubeConfig t).rating z * ((s.thermal.get t).zones.get z).demand / 10 } :=
  if_pos h

theorem enrol_out {t : Tube} {z : Zone} (h : s.takesPart t z = false) (v : AllocZone) : s.enrol t z v = { v with
    part := false, watts := 0, grant := 0, starved := false, firing := 0, timer := 0, starvedCond := false } :=
  if_neg (by simp [h])

/-- A zone left out of a pass. -/
theorem passed_zone_out {t : Tube} {z : Zone} (h : s.takesPart t z = false) : (passed s).zone t z =
    { s.alloc.zone t z with
      part := false, watts := 0, grant := 0, starved := false, firing := 0, timer := 0, starvedCond := false } := by
  have hzone := enrolled_zone s t z
  rw [enrol_out s h] at hzone
  rw [passed, mapZones_zone, allServed_zone_out _ _ (by rw [hzone]), hzone]
  rfl

/-- A zone that has taken part in a pass. -/
theorem passed_zone_in {t : Tube} {z : Zone} (h : s.takesPart t z = true) :
    let new := (passed s).zone t z
    let zr := (s.thermal.get t).zones.get z
    new.part = true ∧ new.cls = powerClass (s.thermal.get t).runState zr ∧
    new.watts = (s.tubeConfig t).rating z * zr.demand / 10 ∧
    new.starved = decide (new.grant < new.watts) ∧
    new.firing = (if new.starved then new.grant * 10 / (s.tubeConfig t).rating z
      else if new.watts = 0 then 0 else zr.demand) ∧
    new.timer = (if new.cls = .soak ∧ new.starved then satAt 65535 ((s.alloc.zone t z).timer + 1) else 0) ∧
    new.starvedCond = ((s.alloc.zone t z).starvedCond && decide ((s.tubeConfig t).starveLimit ≤ new.timer)) := by
  obtain ⟨g, hzone⟩ := passed_zone s t z
  rw [enrol_in s h] at hzone
  intro new zr
  have hnew : new = _ := hzone
  rw [hnew]
  exact ⟨rfl, rfl, rfl, rfl, rfl, rfl, rfl⟩

end

end Sys2Proof.PowerClasses

/-! SUPPORT. What the messages of an event may do to the allocator: they lower firings and mark conditions, and leave the
classes, the demands and the grants of the latest pass as they stand (R81, R82). -/

namespace Sys2Proof.PowerEvents

open Sys2Proof.Machine Sys2Proof.ZoneRules Sys2Proof.ZoneInvariants Sys2Proof.PowerClasses

/-! ### What an event keeps of a pass -/

/-- `n` has the classes, demands and grants of `s`, no firing raised, and the tuning banks. -/
structure PassKept (s n : State) : Prop where
  banks : n.banks = s.banks
  effective : n.alloc.effective = s.alloc.effective
  zones : ∀ t z, ∃ f b, f ≤ (s.alloc.zone t z).firing ∧
    n.alloc.zone t z = { s.alloc.zone t z with firing := f, starvedCond := b }

section

variable {s n m : State} {c : Ctx} {t : Tube}

theorem PassKept.of_alloc (halloc : n.alloc = s.alloc) (hbanks : n.banks = s.banks) : PassKept s n :=
  ⟨hbanks, by rw [halloc], fun t z => ⟨_, _, le_rfl, by rw [halloc]⟩⟩

theorem PassKept.refl (s : State) : PassKept s s := .of_alloc rfl rfl

theorem PassKept.trans (h : PassKept s n) (g : PassKept n m) : PassKept s m where
  banks := g.banks.trans h.banks
  effective := g.effective.trans h.effective
  zones t z := by
    obtain ⟨f, b, hf, hn⟩ := h.zones t z
    obtain ⟨f', b', hf', hm⟩ := g.zones t z
    rw [hn] at hf' hm
    exact ⟨f', b', hf'.trans hf, hm⟩

/-- A zone keeps its part in the pass and its grant. -/
theorem PassKept.zone (h : PassKept s n) (t : Tube) (z : Zone) :
    (n.alloc.zone t z).part = (s.alloc.zone t z).part ∧ (n.alloc.zone t z).cls = (s.alloc.zone t z).cls ∧
    (n.alloc.zone t z).watts = (s.alloc.zone t z).watts ∧ (n.alloc.zone t z).grant = (s.alloc.zone t z).grant ∧
    (n.alloc.zone t z).firing ≤ (s.alloc.zone t z).firing := by
  obtain ⟨f, b, hf, hzone⟩ := h.zones t z
  rw [hzone]
  exact ⟨rfl, rfl, rfl, rfl, hf⟩

theorem PassKept.sameDemands (h : PassKept s n) : SameDemands s.alloc n.alloc := by
  constructor <;> intro t z <;> obtain ⟨hpart, hcls, hwatts, -, -⟩ := h.zone t z
  · exact hpart
  · exact hcls
  · exact hwatts

theorem PassKept.grant (h : PassKept s n) (t : Tube) (z : Zone) :
    (n.alloc.zone t z).grant = (s.alloc.zone t z).grant := by
  obtain ⟨-, -, -, hgrant, -⟩ := h.zone t z
  exact hgrant

theorem PassKept.grantedTo (h : PassKept s n) (k : PowerClass) : n.alloc.grantedTo k = s.alloc.grantedTo k :=
  classSum_congr (h.sameDemands.inClass k) fun t z _ => h.grant t z

theorem PassKept.grantedTotal (h : PassKept s n) : n.alloc.grantedTotal = s.alloc.grantedTotal :=
  congrArg List.sum (List.map_congr_left fun p _ => h.grant p.1 p.2)

/-- An operation that writes zone records and raises no firing. -/
theorem PassKept.of_written (h : ZonesWritten s n)
    (hzone : ∀ u z, ∃ f, f ≤ (heater s u z).2.firing ∧ (heater n u z).2 = { (heater s u z).2 with firing := f }) :
    PassKept s n where
  banks := h.banks
  effective := by rw [h.rest]
  zones u z := by
    obtain ⟨f, hf, hn⟩ := hzone u z
    exact ⟨f, _, hf, hn⟩

theorem passKept_cutDemands (s : State) (t : Tube) : PassKept s (s.cutDemands t) := by
  have honly := zonesOnly_cutDemands s t
  refine .of_written honly.toZonesWritten fun u z => ?_
  by_cases hu : u = t
  · subst hu
    rw [heater_cutDemands]
    split
    · exact ⟨0, Nat.zero_le _, rfl⟩
    · exact ⟨_, le_rfl, rfl⟩
  · rw [honly.others u hu z]
    exact ⟨_, le_rfl, rfl⟩

theorem passKept_limitDemands (s : State) (t : Tube) : PassKept s (s.limitDemands t) := by
  have honly := zonesOnly_limitDemands s t
  refine .of_written honly.toZonesWritten fun u z => ?_
  by_cases hu : u = t
  · subst hu
    rw [heater_limitDemands]
    unfold limited
    split
    · split
      · exact ⟨_, Nat.min_le_left _ _, rfl⟩
      · exact ⟨_, le_rfl, rfl⟩
    · exact ⟨_, le_rfl, rfl⟩
  · rw [honly.others u hu z]
    exact ⟨_, le_rfl, rfl⟩

theorem passKept_setInhibit (s : State) (t : Tube) (cause : Inhibit) : PassKept s (s.setInhibit t cause) :=
  .trans (n := s.setThermal t _) (.of_alloc rfl rfl) (passKept_cutDemands _ t)

theorem passKept_setBank (s : State) (t : Tube) (b : Fin 8) : PassKept s (s.setBank t b) :=
  .trans (n := s.setRun t _) (.of_alloc rfl rfl) (passKept_limitDemands _ t)

/-- A starved condition marked. -/
theorem passKept_starvedCond (s : State) (t : Tube) (z : Zone) (b : Bool) :
    PassKept s (s.setAlloc (s.alloc.setZone t z { s.alloc.zone t z with starvedCond := b })) := by
  refine ⟨rfl, rfl, fun u y => ?_⟩
  by_cases hy : u = t ∧ y = z
  · obtain ⟨rfl, rfl⟩ := hy
    exact ⟨_, b, le_rfl, alloc_setZone_same ..⟩
  · exact ⟨_, _, le_rfl, alloc_setZone_other _ hy _⟩

/-! ### Messages that the allocator does not notice -/

/-- An answer that leaves the allocator's records and the tuning banks as they are in `s`. -/
structure Unnoticed (s : State) (r : Ctx × List Task) : Prop where
  alloc : r.1.s.alloc = s.alloc
  banks : r.1.s.banks = s.banks

theorem Unnoticed.kept {r : Ctx × List Task} (h : Unnoticed s r) : PassKept s r.1.s := .of_alloc h.alloc h.banks

theorem Unnoticed.ite {p : Prop} [Decidable p] {a b : Ctx × List Task} (ha : Unnoticed s a) (hb : Unnoticed s b) :
    Unnoticed s (if p then a else b) := by
  split
  · exact ha
  · exact hb

/-- An answer given after a change that the allocator does not notice. -/
theorem Unnoticed.after {r : Ctx × List Task} (h : Unnoticed n r) (halloc : n.alloc = s.alloc)
    (hbanks : n.banks = s.banks) : Unnoticed s r :=
  ⟨h.alloc.trans halloc, h.banks.trans hbanks⟩

theorem unnoticed_closeRun (c : Ctx) (t : Tube) (result : RunResult) : Unnoticed c.s (c.closeRun t result, []) := by
  unfold Ctx.closeRun
  dsimp only
  split <;> exact ⟨rfl, rfl⟩

theorem unnoticed_taskEvaluate (t : Tube) (c : Ctx) : Unnoticed c.s (taskEvaluate t c) := by
  unfold taskEvaluate
  dsimp only
  split <;> exact ⟨rfl, rfl⟩

theorem unnoticed_taskStepEnd (t : Tube) (c : Ctx) : Unnoticed c.s (taskStepEnd t c) := by
  unfold taskStepEnd
  dsimp only
  split
  · exact .ite ⟨rfl, rfl⟩ ⟨rfl, rfl⟩
  · exact ⟨rfl, rfl⟩

theorem unnoticed_taskStepElapsed (t : Tube) (c : Ctx) : Unnoticed c.s (taskStepElapsed t c) := by
  unfold taskStepElapsed
  dsimp only
  split <;> exact ⟨rfl, rfl⟩

theorem unnoticed_taskStepTimeout (t : Tube) (c : Ctx) : Unnoticed c.s (taskStepTimeout t c) := by
  unfold taskStepTimeout
  dsimp only
  split
  · exact .ite ⟨rfl, rfl⟩ ⟨rfl, rfl⟩
  · exact ⟨rfl, rfl⟩

theorem unnoticed_taskEntryFinish (t : Tube) (c : Ctx) : Unnoticed c.s (taskEntryFinish t c) := by
  unfold taskEntryFinish
  dsimp only
  split <;> exact ⟨rfl, rfl⟩

theorem unnoticed_taskRelease (t : Tube) (c : Ctx) : Unnoticed c.s (taskRelease t c) := by
  unfold taskRelease
  split
  · exact ⟨rfl, rfl⟩
  · split <;> exact ⟨rfl, rfl⟩

theorem unnoticed_taskAbortFinish (t : Tube) (k : Cause) (c : Ctx) : Unnoticed c.s (taskAbortFinish t k c) := by
  unfold taskAbortFinish
  dsimp only
  split
  · exact .ite ⟨rfl, rfl⟩ ⟨rfl, rfl⟩
  · exact ⟨rfl, rfl⟩

theorem unnoticed_taskAction (t : Tube) (a : Applied) (k : FaultKind) (c : Ctx) :
    Unnoticed c.s (taskAction t a k c) := by
  unfold taskAction
  dsimp only
  split <;> exact ⟨rfl, rfl⟩

theorem unnoticed_handAction (t : Tube) (a : Applied) (k : FaultKind) (c : Ctx) :
    Unnoticed c.s (handAction t a k c) := by
  unfold handAction
  split
  · exact .ite ⟨rfl, rfl⟩ ⟨rfl, rfl⟩
  · exact ⟨rfl, rfl⟩

theorem unnoticed_taskShedDetect (m l : Nat) (c : Ctx) : Unnoticed c.s (taskShedDetect m l c) := by
  unfold taskShedDetect
  dsimp only
  split <;> exact ⟨rfl, rfl⟩

theorem unnoticed_taskHeaderWait (t : Tube) (c : Ctx) : Unnoticed c.s (taskHeaderWait t c) := by
  unfold taskHeaderWait
  dsimp only
  split
  · exact .ite ⟨rfl, rfl⟩ ⟨rfl, rfl⟩
  · exact ⟨rfl, rfl⟩

theorem unnoticed_taskFlowDeviation (t : Tube) (l : GasLine) (c : Ctx) : Unnoticed c.s (taskFlowDeviation t l c) := by
  unfold taskFlowDeviation
  dsimp only
  exact .ite ⟨rfl, rfl⟩ ⟨rfl, rfl⟩

theorem unnoticed_taskExamine (c : Ctx) : Unnoticed c.s (taskExamine c) := by
  unfold taskExamine
  split <;> exact ⟨rfl, rfl⟩

theorem unnoticed_pathFromStable (t : Tube) (l : AtmClass) (o : WaitOrigin) (c : Ctx) :
    Unnoticed c.s (pathFromStable t l o c) := by
  unfold pathFromStable
  dsimp only
  exact .ite ⟨rfl, rfl⟩ ⟨rfl, rfl⟩

theorem unnoticed_continuation (t : Tube) (c : Ctx) : Unnoticed c.s (continuation t c) := by
  unfold continuation
  dsimp only
  exact .ite ⟨rfl, rfl⟩ ⟨rfl, rfl⟩

theorem unnoticed_taskRecompute (t : Tube) (w : Bool) (c : Ctx) : Unnoticed c.s (taskRecompute t w c) := by
  unfold taskRecompute
  dsimp only
  split
  case h_1 | h_2 => exact unnoticed_pathFromStable ..
  case h_3 =>
    split
    case h_1 | h_4 => exact unnoticed_pathFromStable ..
    case h_2 => exact .ite ⟨rfl, rfl⟩ ⟨rfl, rfl⟩
    case h_3 => exact unnoticed_continuation ..
  case h_5 => exact .ite (.ite ⟨rfl, rfl⟩ (.ite ⟨rfl, rfl⟩ ⟨rfl, rfl⟩)) ⟨rfl, rfl⟩
  case h_4 | h_6 | h_7 => exact .ite ⟨rfl, rfl⟩ ⟨rfl, rfl⟩
  case h_8 => exact ⟨rfl, rfl⟩

theorem unnoticed_taskWithdraw (t : Tube) (c : Ctx) : Unnoticed c.s (taskWithdraw t c) := by
  unfold taskWithdraw
  dsimp only
  split <;> exact ⟨rfl, rfl⟩

theorem unnoticed_taskAtmTick (t : Tube) (c : Ctx) : Unnoticed c.s (taskAtmTick t c) := by
  unfold taskAtmTick
  dsimp only
  split
  · exact ⟨rfl, rfl⟩
  · split <;> exact ⟨rfl, rfl⟩

theorem unnoticed_taskPurgeComplete (t : Tube) (c : Ctx) : Unnoticed c.s (taskPurgeComplete t c) := by
  unfold taskPurgeComplete
  dsimp only
  split
  · exact (unnoticed_continuation t _).after rfl rfl
  · exact ⟨rfl, rfl⟩

theorem unnoticed_taskPurgeIncomplete (t : Tube) (c : Ctx) : Unnoticed c.s (taskPurgeIncomplete t c) := by
  unfold taskPurgeIncomplete
  dsimp only
  exact .ite ⟨rfl, rfl⟩ ⟨rfl, rfl⟩

theorem unnoticed_taskIgnitionTest (t : Tube) (c : Ctx) : Unnoticed c.s (taskIgnitionTest t c) := by
  unfold taskIgnitionTest
  exact .ite ⟨rfl, rfl⟩ ⟨rfl, rfl⟩

theorem unnoticed_taskIgnitionFailed (t : Tube) (c : Ctx) : Unnoticed c.s (taskIgnitionFailed t c) := by
  unfold taskIgnitionFailed
  dsimp only
  exact .ite ⟨rfl, rfl⟩ ⟨rfl, rfl⟩

theorem unnoticed_taskPostFlowEnd (t : Tube) (c : Ctx) : Unnoticed c.s (taskPostFlowEnd t c) := by
  unfold taskPostFlowEnd
  dsimp only
  exact .ite ⟨rfl, rfl⟩ ⟨rfl, rfl⟩

theorem unnoticed_taskMoveRequest (t : Tube) (x v : Nat) (c : Ctx) : Unnoticed c.s (taskMoveRequest t x v c) := by
  unfold taskMoveRequest
  dsimp only
  exact .ite ⟨rfl, rfl⟩ ⟨rfl, rfl⟩

theorem unnoticed_taskMoveStart (t : Tube) (c : Ctx) : Unnoticed c.s (taskMoveStart t c) := by
  unfold taskMoveStart
  dsimp only
  exact .ite ⟨rfl, rfl⟩ ⟨rfl, rfl⟩

theorem unnoticed_taskSettleTimeout (t : Tube) (c : Ctx) : Unnoticed c.s (taskSettleTimeout t c) := by
  unfold taskSettleTimeout
  dsimp only
  exact .ite ⟨rfl, rfl⟩ ⟨rfl, rfl⟩

theorem unnoticed_taskShutterTimeout (t : Tube) (c : Ctx) : Unnoticed c.s (taskShutterTimeout t c) := by
  unfold taskShutterTimeout
  dsimp only
  exact .ite ⟨rfl, rfl⟩ ⟨rfl, rfl⟩

theorem unnoticed_taskRampStalled (t : Tube) (c : Ctx) : Unnoticed c.s (taskRampStalled t c) := by
  unfold taskRampStalled
  dsimp only
  exact .ite ⟨rfl, rfl⟩ ⟨rfl, rfl⟩

theorem unnoticed_taskTempReport (t : Tube) (met : Bool) (c : Ctx) : Unnoticed c.s (taskTempReport t met c) := by
  unfold taskTempReport
  dsimp only
  exact .ite ⟨rfl, rfl⟩ ⟨rfl, rfl⟩

/-! ### Messages that lower demands or mark a condition -/

theorem passKept_taskPowerStarved (t : Tube) (z : Zone) (c : Ctx) : PassKept c.s (taskPowerStarved t z c).1.s := by
  unfold taskPowerStarved
  dsimp only
  split
  · exact passKept_starvedCond c.s t z true
  · exact .refl _

theorem passKept_taskShedActed (t : Tube) (a : Applied) (l : Nat) (rs : RunState) (q p : Nat) (c : Ctx) :
    PassKept c.s (taskShedActed t a l rs q p c).1.s := by
  unfold taskShedActed
  split
  · exact (unnoticed_handAction t a .shedActive c).kept
  · exact .trans (n := (c.notice _).s) (.of_alloc rfl rfl) (unnoticed_handAction t a .shedActive (c.notice _)).kept

theorem passKept_taskDetect (d : Detection) (c : Ctx) : PassKept c.s (taskDetect d c).1.s := by
  unfold taskDetect
  dsimp only
  split
  · exact .refl _
  next ap _ =>
    refine .trans ?_ (unnoticed_handAction ..).kept
    have hfault : ∀ f, PassKept c.s (if d.kind.inhibits ∧ ap = .safe then (c.s.setFaults f).setInhibit d.tube .fault
        else c.s.setFaults f) := by
      intro f
      split
      · exact .trans (n := c.s.setFaults f) (.of_alloc rfl rfl) (passKept_setInhibit ..)
      · exact .of_alloc rfl rfl
    split
    · exact hfault _
    · exact (hfault _).trans (.of_alloc rfl rfl)

theorem passKept_applyStep (s : State) (t : Tube) (st : Step) : PassKept s (s.applyStep t st) := by
  have hbank : ∀ s : State, PassKept s (match st.bank with | some b => s.setBank t b | none => s) := by
    intro s
    split
    · exact passKept_setBank ..
    · exact .refl s
  have htargets : ∀ s : State, PassKept s (match st.targets with | some l => s.retarget t l | none => s) := by
    intro s
    split <;> exact .of_alloc rfl rfl
  unfold State.applyStep
  exact .trans (n := s.setRun t _) (.of_alloc rfl rfl) 
    ((hbank _).trans (.trans (n := State.handOver _ t) (.of_alloc rfl rfl) (htargets _)))

theorem passKept_taskEnter (t : Tube) (l : ListSel) (i : Nat) (c : Ctx) : PassKept c.s (taskEnter t l i c).1.s := by
  unfold taskEnter
  dsimp only
  split
  · exact .trans (n := c.s.setRun t _) (.of_alloc rfl rfl) (passKept_applyStep ..)
  · exact .of_alloc rfl rfl

theorem passKept_taskIdle (t : Tube) (c : Ctx) : PassKept c.s (taskIdle t c).1.s := by
  unfold taskIdle
  dsimp only
  split
  · exact .trans (n := (c.s.setRun t _).handOver t) (.of_alloc rfl rfl) (passKept_setInhibit ..)
  · exact .of_alloc rfl rfl

theorem passKept_taskCommissionTube (t : Tube) (c : Ctx) : PassKept c.s (taskCommissionTube t c).1.s :=
  .trans (n := (c.s.seed t).setBank t (c.s.tubeConfig t).defaultBank)
    (.trans (n := c.s.seed t) (.of_alloc rfl rfl) (passKept_setBank ..)) (.of_alloc rfl rfl)

/-! ### Every message -/

/-- Whatever a message does, it keeps what the latest pass has dealt. -/
theorem handle_passKept (k : Task) (c : Ctx) : PassKept c.s (handle k c).1.s := by
  cases k with
  | evaluate t => exact (unnoticed_taskEvaluate t c).kept
  | stepEnd t => exact (unnoticed_taskStepEnd t c).kept
  | enter t l i => exact passKept_taskEnter t l i c
  | entryFinish t => exact (unnoticed_taskEntryFinish t c).kept
  | release t => exact (unnoticed_taskRelease t c).kept
  | endRun t r k => exact (unnoticed_closeRun c t r).kept.trans (.of_alloc rfl rfl)
  | idle t => exact passKept_taskIdle t c
  | abortFinish t k => exact (unnoticed_taskAbortFinish t k c).kept
  | safeFinish t k => exact (unnoticed_closeRun c t .stoppedSafe).kept.trans (.of_alloc rfl rfl)
  | action t a k => exact (unnoticed_taskAction t a k c).kept
  | stepElapsed t => exact (unnoticed_taskStepElapsed t c).kept
  | stepTimeout t => exact (unnoticed_taskStepTimeout t c).kept
  | detect d => exact passKept_taskDetect d c
  | shedDetect m l => exact (unnoticed_taskShedDetect m l c).kept
  | shedActed t a l rs q p => exact passKept_taskShedActed t a l rs q p c
  | rampStalled t => exact (unnoticed_taskRampStalled t c).kept
  | tempReport t v => exact (unnoticed_taskTempReport t v c).kept
  | powerStarved t z => exact passKept_taskPowerStarved t z c
  | headerWait t => exact (unnoticed_taskHeaderWait t c).kept
  | flowDeviation t l => exact (unnoticed_taskFlowDeviation t l c).kept
  | examine => exact (unnoticed_taskExamine c).kept
  | recompute t w => exact (unnoticed_taskRecompute t w c).kept
  | withdraw t => exact (unnoticed_taskWithdraw t c).kept
  | atmTick t => exact (unnoticed_taskAtmTick t c).kept
  | purgeComplete t => exact (unnoticed_taskPurgeComplete t c).kept
  | purgeIncomplete t => exact (unnoticed_taskPurgeIncomplete t c).kept
  | ignitionTest t => exact (unnoticed_taskIgnitionTest t c).kept
  | ignitionFailed t => exact (unnoticed_taskIgnitionFailed t c).kept
  | postFlowEnd t => exact (unnoticed_taskPostFlowEnd t c).kept
  | moveRequest t x v => exact (unnoticed_taskMoveRequest t x v c).kept
  | moveStart t => exact (unnoticed_taskMoveStart t c).kept
  | settleTimeout t => exact (unnoticed_taskSettleTimeout t c).kept
  | shutterTimeout t => exact (unnoticed_taskShutterTimeout t c).kept
  | commissionTube t => exact passKept_taskCommissionTube t c
  | entryGas | entryMove | enterHolding | leaveHolding | abort | enterSafe | bankDetect | judgeSamples | gasRequest
  | safeFlow | atmReport | boatStop | boatHold | boatRelease | boatReport => exact .of_alloc rfl rfl

/-- An event that begins with messages alone keeps what the latest pass has dealt. -/
theorem eventOf_passKept (s : State) (ks : List Task) : PassKept s (s.eventOf ks) :=
  runTasks_keeps (P := fun m => PassKept s m.s) (fun k m h => h.trans (handle_passKept k m)) _ ks (Ctx.start s false)
    (.refl s)

end

end Sys2Proof.PowerEvents

/-! SUPPORT. The statements of the power allocator: what an allocation pass leaves, what SET_BUDGET and the load-shed line
write (R73 to R82). -/

namespace Sys2Proof.PowerAllocation

open Sys2Proof.Machine Sys2Proof.RecipeRequests Sys2Proof.ZoneEvents Sys2Proof.PowerClasses Sys2Proof.PowerEvents

/-! ### What a pass leaves (R75 to R82) -/

section

variable {s : State} {t : Tube} {z : Zone}

theorem powerClass_soak_iff (rs : RunState) (r : ZoneRec) :
    powerClass rs r = .soak ↔ (rs = .running ∨ rs = .holding) ∧ r.complete = true := by
  unfold powerClass
  split_ifs <;> simp_all

theorem powerClass_ramp_iff (rs : RunState) (r : ZoneRec) :
    powerClass rs r = .ramp ↔ (rs = .running ∨ rs = .holding) ∧ r.complete = false ∧ r.origin < r.target := by
  unfold powerClass
  split_ifs <;> simp_all

theorem passed_part (s : State) (t : Tube) (z : Zone) : ((passed s).zone t z).part = s.takesPart t z := by
  cases h : s.takesPart t z with
  | true => exact (passed_zone_in s h).1
  | false => rw [passed_zone_out s h]

theorem passed_part_iff (s : State) (t : Tube) (z : Zone) :
    ((passed s).zone t z).part = true ↔ (s.tubeConfig t).status = .fitted ∧
      z.number ≤ (s.tubeConfig t).activeZones ∧ (s.thermal.get t).runState ≠ .offline ∧
      (s.thermal.get t).inhibit = .clear := by
  rw [passed_part, takesPart_iff]

/-- No zone is granted more than its demand (R78). -/
theorem passed_grant_le (s : State) (t : Tube) (z : Zone) :
    ((passed s).zone t z).grant ≤ ((passed s).zone t z).watts := by
  cases h : ((passed s).zone t z).part with
  | true => exact (served_passed s _).grant_le (inClass_iff.2 ⟨h, rfl⟩)
  | false =>
    rw [passed_part] at h
    rw [passed_zone_out s h]

/-- The grants of a class add up to its demands, or to its remainder where they exceed it. -/
theorem passed_grantedTo (s : State) (k : PowerClass) : (passed s).grantedTo k =
    min ((passed s).classSum k AllocZone.watts) (remainder s.effectiveBudget (passed s) k) :=
  (served_passed s k).granted

/-- A zone's grant counts in exactly one class, or is 0. -/
theorem grantedTotal_eq {a : Alloc} (hout : ∀ t z, (a.zone t z).part = false → (a.zone t z).grant = 0) :
    a.grantedTotal = a.grantedTo .soak + a.grantedTo .ramp + a.grantedTo .other := by
  simp only [Alloc.grantedTotal, Alloc.grantedTo, Alloc.classSum, ← List.sum_map_add]
  refine congrArg List.sum (List.map_congr_left fun p _ => ?_)
  cases hpart : (a.zone p.1 p.2).part with
  | false => simp [AllocZone.inClass, hpart, hout _ _ hpart]
  | true => cases hcls : (a.zone p.1 p.2).cls <;> simp [AllocZone.inClass, hpart, hcls]

theorem passed_grantedTotal_le (s : State) : (passed s).grantedTotal ≤ s.effectiveBudget := by
  have hout : ∀ t z, ((passed s).zone t z).part = false → ((passed s).zone t z).grant = 0 := fun t z h => by
    rw [passed_part] at h
    rw [passed_zone_out s h]
  rw [grantedTotal_eq hout, passed_grantedTo, passed_grantedTo, passed_grantedTo]
  simp only [remainder]
  omega

/-- Where a class is short, the lower ones receive nothing (R78). -/
theorem passed_short_soak (s : State)
    (h : (passed s).grantedTo .soak < (passed s).classSum .soak AllocZone.watts) :
    (passed s).grantedTo .ramp = 0 ∧ (passed s).grantedTo .other = 0 := by
  rw [passed_grantedTo] at h ⊢
  rw [passed_grantedTo]
  simp only [remainder] at h ⊢
  omega

theorem passed_short_ramp (s : State)
    (h : (passed s).grantedTo .ramp < (passed s).classSum .ramp AllocZone.watts) :
    (passed s).grantedTo .other = 0 := by
  rw [passed_grantedTo] at h ⊢
  simp only [remainder] at h ⊢
  omega

theorem exec_allocationPass (h : s.inReset = false) : exec .allocationPass s =
    .next (s.allocate.eventOf (bankPositions.map fun p => .powerStarved p.1 p.2)) := by
  have hact : exec .allocationPass s =
      s.act fun s => s.allocate.eventOf (bankPositions.map fun p => .powerStarved p.1 p.2) := rfl
  rw [hact, State.act_eq h]

end

/-! ### What the event after a pass keeps of it -/

section

variable {s n : State} {t : Tube} {z : Zone}

/-- The zones after the event that follows a pass (R76, R78). -/
theorem zone_after_pass (h : PassKept (s.setAlloc (passed s)) n) (t : Tube) (z : Zone) :
    ((n.alloc.zone t z).part = true ↔ (s.tubeConfig t).status = .fitted ∧
      z.number ≤ (s.tubeConfig t).activeZones ∧ (s.thermal.get t).runState ≠ .offline ∧
      (s.thermal.get t).inhibit = .clear) ∧
    ((n.alloc.zone t z).part = true →
      (n.alloc.zone t z).watts = (s.tubeConfig t).rating z * ((s.thermal.get t).zones.get z).demand / 10) ∧
    (n.alloc.zone t z).grant ≤ (n.alloc.zone t z).watts ∧
    ((n.alloc.zone t z).part = false → (n.alloc.zone t z).grant = 0 ∧ (n.alloc.zone t z).firing = 0) := by
  obtain ⟨hpart, -, hwatts, hgrant, hfiring⟩ := h.zone t z
  rw [State.setAlloc_alloc] at hpart hwatts hgrant hfiring
  rw [hpart, hwatts, hgrant]
  refine ⟨passed_part_iff s t z, fun hin => ?_, passed_grant_le s t z, fun hout => ?_⟩
  · rw [passed_part] at hin
    obtain ⟨-, -, hin, -⟩ := passed_zone_in s hin
    exact hin
  · rw [passed_part] at hout
    rw [passed_zone_out s hout] at hfiring ⊢
    exact ⟨rfl, Nat.le_zero.1 hfiring⟩

theorem passed_zone_left_out (s : State) (t : Tube) (z : Zone) (h : ((passed s).zone t z).part = false) :
    (passed s).zone t z = { s.alloc.zone t z with
      part := false, watts := 0, grant := 0, starved := false, firing := 0, timer := 0, starvedCond := false } :=
  passed_zone_out s (by rw [← passed_part, h])

/-- A zone that has taken part in a pass, as R77, R80 and R82 say it. -/
theorem passed_zone_settled (h : ((passed s).zone t z).part = true) :
    let new := (passed s).zone t z
    let th := s.thermal.get t
    let zr := th.zones.get z
    let walking : Prop := th.runState = .running ∨ th.runState = .holding
    (new.cls = .soak ↔ walking ∧ zr.complete = true) ∧
    (new.cls = .ramp ↔ walking ∧ zr.complete = false ∧ zr.origin < zr.target) ∧
    new.watts = (s.tubeConfig t).rating z * zr.demand / 10 ∧
    (new.starved = true ↔ new.grant < new.watts) ∧
    (new.starved = true → new.firing = new.grant * 10 / (s.tubeConfig t).rating z) ∧
    (new.starved = false → new.firing = if new.watts = 0 then 0 else zr.demand) ∧
    new.timer = (if new.cls = .soak ∧ new.starved = true then min 65535 ((s.alloc.zone t z).timer + 1) else 0) ∧
    (new.starvedCond = true ↔ (s.alloc.zone t z).starvedCond = true ∧ (s.tubeConfig t).starveLimit ≤ new.timer) := by
  rw [passed_part] at h
  obtain ⟨-, hcls, hwatts, hstarved, hfiring, htimer, hcond⟩ := passed_zone_in s h
  refine ⟨?_, ?_, hwatts, ?_, fun hs => ?_, fun hs => ?_, ?_, ?_⟩
  · rw [hcls, powerClass_soak_iff]
  · rw [hcls, powerClass_ramp_iff]
  · rw [hstarved, decide_eq_true_iff]
  · rw [hfiring, if_pos hs]
  · rw [hfiring, hs, if_neg Bool.false_ne_true]
  · rw [htimer, satAt, Nat.min_comm]
  · rw [hcond, Bool.and_eq_true, decide_eq_true_iff]

/-- A served class, as R78 and R79 say it. -/
theorem grants_result_pointer_of_served {a : Alloc} {k : PowerClass} {ptr left : Nat} (h : Served ptr k left a) :
    let sum := a.classSum k fun z => z.watts
    let ofClass (p : Tube × Zone) : Prop := (a.zone p.1 p.2).part = true ∧ (a.zone p.1 p.2).cls = k
    (sum ≤ left → (∀ t z, ofClass (t, z) → (a.zone t z).grant = (a.zone t z).watts) ∧
      a.results.get k = { demand := sum, granted := sum, short := false } ∧ a.pointers.get k = ptr) ∧
    (left < sum →
      let floor (p : Tube × Zone) := (a.zone p.1 p.2).watts * left / sum
      let odd := left - a.classSum k fun z => z.watts * left / sum
      let owed := (bankPositions.drop (ptr - 1) ++ bankPositions.take (ptr - 1)).filter fun p =>
        (a.zone p.1 p.2).part && (a.zone p.1 p.2).cls = k && floor p < (a.zone p.1 p.2).watts
      (∀ t z, ofClass (t, z) → (a.zone t z).grant = floor (t, z) + (if (t, z) ∈ owed.take odd then 1 else 0)) ∧
      a.results.get k = { demand := sum, granted := left, short := true } ∧
      a.pointers.get k = if ptr = 20 then 1 else ptr + 1) := by
  refine ⟨fun hample => ?_, fun hshort => ?_⟩
  · obtain ⟨hzones, hrest⟩ := h.ample hample
    exact ⟨fun t z hz => hzones t z (inClass_iff.2 hz), hrest⟩
  · obtain ⟨hzones, hrest⟩ := h.short hshort
    exact ⟨fun t z hz => hzones t z (inClass_iff.2 hz), hrest⟩

/-- The budget holds after the event that follows a pass, and a short class leaves the lower ones nothing (R75, R78). -/
theorem budget_after_pass (h : PassKept (s.setAlloc (passed s)) n) : n.alloc.effective = s.effectiveBudget ∧
    n.alloc.grantedTotal ≤ s.effectiveBudget ∧
    (n.alloc.grantedTo .soak < n.alloc.classSum .soak AllocZone.watts →
      n.alloc.grantedTo .ramp = 0 ∧ n.alloc.grantedTo .other = 0) ∧
    (n.alloc.grantedTo .ramp < n.alloc.classSum .ramp AllocZone.watts → n.alloc.grantedTo .other = 0) := by
  rw [h.effective, h.grantedTotal, h.grantedTo, h.grantedTo, h.grantedTo, h.sameDemands.classSum,
    h.sameDemands.classSum, State.setAlloc_alloc]
  exact ⟨passed_effective s, passed_grantedTotal_le s, passed_short_soak s, passed_short_ramp s⟩

end

/-- Settles O44: each class is served from its remainder, each zone settled, and the event after the pass keeps what the pass
has dealt. -/
theorem allocationStaysWithinTheBudget : Obligations.AllocationStaysWithinTheBudget := by
  unfold Obligations.AllocationStaysWithinTheBudget
  refine ⟨fun s hreset => ?_, fun s hreset => ?_⟩
  · have hkept := eventOf_passKept s.allocate (bankPositions.map fun p => .powerStarved p.1 p.2)
    have hbanks : (s.allocate.eventOf _).banks = s.banks := hkept.banks.trans (by rw [allocate_eq, State.setAlloc_banks])
    have hexec := exec_allocationPass hreset
    generalize s.allocate.eventOf _ = n at hkept hbanks hexec
    rw [allocate_eq] at hkept
    obtain ⟨heffective, htotal, hsoak, hramp⟩ := budget_after_pass hkept
    exact ⟨n, hexec, heffective, htotal, hbanks, zone_after_pass hkept, hsoak, hramp⟩
  · intro a budget
    have ha : a = passed s := by
      change s.allocate.alloc = passed s
      rw [allocate_eq, State.setAlloc_alloc]
    have hallocate : s.allocate = s.setAlloc a := by rw [ha, allocate_eq]
    have hserved := served_passed s
    have hpart := passed_part_iff s
    have hin := fun t z => passed_zone_settled (s := s) (t := t) (z := z)
    have hout := passed_zone_left_out s
    rw [← ha] at hserved hpart hout
    simp only [← ha] at hin
    clear_value a
    refine ⟨exec_allocationPass hreset, hallocate, fun t z => ⟨hpart t z, hout t z, hin t z⟩, fun k => ?_⟩
    cases k with
    | soak => exact grants_result_pointer_of_served (hserved .soak)
    | ramp => exact grants_result_pointer_of_served (hserved .ramp)
    | other => exact grants_result_pointer_of_served (hserved .other)

/-! ### SET_BUDGET (R73) -/

section

variable {s s' : State} {tag : Byte} {b : Half} {a : Answer}

theorem decode_setBudget (b : Half) : decodeRequest (requestKind (.setBudget b)) (requestPayload (.setBudget b)) =
    .request (.setBudget b) := by
  have hread : half? (requestPayload (.setBudget b)) = some (b, []) := by simpa [requestPayload] using half?_halfBytes b []
  exact congrArg (fun r => whole (r.map fun r => (.setBudget r.1, r.2))) hread

theorem exec_setBudget (h : s.canTake = true) (hs : s.setBudget b = (s', a)) :
    exec (.setBudget tag b) s = .next (s'.replied (.setBudget b) tag a) :=
  host_of_serve h (decode_setBudget b) hs

theorem setBudget_of_mem (hlow : 10 ≤ b.toNat) (hhigh : b.toNat ≤ 600) : s.setBudget b =
    ({ s with alloc := { s.alloc with budget := some b.toNat } },
      .one (u16 b.toNat ++ u16 (s.alloc.budget.getD 0) ++ flag s.alloc.shed ++
        u16 (if s.alloc.shed then s.config.bank.shedBudget else b.toNat))) := by
  have hwithin : within 10 600 b.toNat = true := by simp [within, hlow, hhigh]
  have heffective : (s.setAlloc { s.alloc with budget := some b.toNat }).effectiveBudget / 1000 =
      if s.alloc.shed then s.config.bank.shedBudget else b.toNat := Nat.mul_div_cancel_left _ (by decide)
  rw [State.setBudget, if_pos hwithin]
  dsimp only
  rw [heffective]
  rfl

theorem setBudget_of_not_mem (h : b.toNat < 10 ∨ 600 < b.toNat) : s.setBudget b = (s, .no .badField 1) := by
  have hwithin : within 10 600 b.toNat = false := by
    simp only [within, Bool.and_eq_false_iff, decide_eq_false_iff_not]
    omega
  simp [State.setBudget, hwithin]

end

/-! ### The load-shed line (R74) -/

section

variable {s : State} {rising : Bool}

theorem exec_loadShedEdge (h : s.inReset = false) :
    exec (.loadShedEdge rising) s = .next (s.event fun c => shedOnset (shedEdged rising c)) := by
  have hexec : exec (.loadShedEdge rising) s = .next
      (if s.inReset then { s with lines := { s.lines with loadShed := rising } } else s.event (shedEdge rising)) := rfl
  rw [hexec, h, if_neg Bool.false_ne_true]
  rfl

theorem shedOnset_absent {c : Ctx} (h : c.s.config.locked = false ∨ c.s.alloc.shed = false) : shedOnset c = (c, []) := by
  refine if_neg ?_
  rintro ⟨hlocked, hshed, -⟩
  obtain h | h := h
  · simp [h] at hlocked
  · simp [h] at hshed

theorem shedOnset_present {c : Ctx} (hlocked : c.s.config.locked = true) (hshed : c.s.alloc.shed = true)
    (habsent : c.s.alloc.shedActive = false) : shedOnset c =
      (c.put (c.s.setAlloc { c.s.alloc with shedActive := true }),
        [.shedDetect (match c.s.alloc.budget with | none => 0 | some _ => c.s.config.bank.shedBudget)
          (c.s.alloc.budget.getD 0)]) := by
  have heffective : c.s.effectiveBudget / 1000 =
      match c.s.alloc.budget with | none => 0 | some _ => c.s.config.bank.shedBudget := by
    unfold State.effectiveBudget
    cases c.s.alloc.budget with
    | none => exact Nat.zero_div 1000
    | some b => simp [hshed]
  rw [← heffective]
  exact if_pos ⟨hlocked, hshed, habsent⟩

end

/-- Settles O45: SET_BUDGET by its range, the load-shed edge by whether SHED_ACTIVE begins. -/
theorem budgetAndShedStateAreWritten : Obligations.BudgetAndShedStateAreWritten := by
  unfold Obligations.BudgetAndShedStateAreWritten
  refine ⟨fun s tag b htake => ⟨fun hlow hhigh => ?_, fun hout => ?_⟩, fun s rising hreset => ⟨fun h => ?_, ?_⟩⟩
  · exact exec_setBudget htake (setBudget_of_mem hlow hhigh)
  · exact exec_setBudget htake (setBudget_of_not_mem hout)
  · rw [exec_loadShedEdge hreset, State.event, shedOnset_absent h]
    exact congrArg Host.Outcome.next (congrArg Ctx.s (runTasks_nil _ _))
  · rintro hlocked rfl habsent
    have hstill : (shedEdged true (Ctx.start s false)).s.alloc.shedActive = false := by simp [shedEdged, habsent]
    rw [exec_loadShedEdge hreset, State.event, shedOnset_present hlocked rfl hstill]
    rfl

end Sys2Proof.PowerAllocation

/-! SUPPORT. The gas supply arbiter tube by tube: what each of its operations leaves in a tube's grant, commands, safety flag
and queue entries, in the readbacks and in the granted sums of the headers (R86 to R92, R96). -/

namespace Sys2Proof.GasRules

open Sys2Proof.Machine

/-! ### What the arbiter holds for one tube -/

/-- The arbiter's records of one tube, with the tube's entries in the gas wait queue. -/
structure Supply where
  granted : Flows
  commands : Flows
  safety : Bool
  entries : List GasEntry

/-- A tube's entries in the gas wait queue, in order. -/
def entries (g : Gas) (t : Tube) : List GasEntry := g.queue.filter fun e => e.tube = t

def supply (g : Gas) (t : Tube) : Supply :=
  { granted := g.granted.get t, commands := g.commands t, safety := g.safety.get t, entries := entries g t }

/-- The readback of a line (R87). -/
def readback (g : Gas) (t : Tube) (l : GasLine) : Option Nat := ((g.lines.get t).get l).readback

section

variable {g h k : Gas} {t u : Tube}

@[simp] theorem supply_granted (g : Gas) (t : Tube) : (supply g t).granted = g.granted.get t := rfl
@[simp] theorem supply_commands (g : Gas) (t : Tube) : (supply g t).commands = g.commands t := rfl
@[simp] theorem supply_safety (g : Gas) (t : Tube) : (supply g t).safety = g.safety.get t := rfl
@[simp] theorem supply_entries (g : Gas) (t : Tube) : (supply g t).entries = entries g t := rfl

theorem mem_entries {e : GasEntry} : e ∈ entries g t ↔ e ∈ g.queue ∧ e.tube = t := by
  simp [entries]

theorem entry?_eq_head? (g : Gas) (t : Tube) : g.entry? t = (entries g t).head? := (List.head?_filter ..).symm

theorem entry?_isSome_iff : (g.entry? t).isSome = true ↔ entries g t ≠ [] := by
  rw [entry?_eq_head?]
  cases entries g t <;> simp

theorem entry?_eq_none_iff : g.entry? t = none ↔ entries g t = [] := by
  rw [entry?_eq_head?, List.head?_eq_none_iff]

/-- Each tube has at most one entry exactly where the queue names each tube once (R90). -/
theorem nodup_tubes_iff : (g.queue.map GasEntry.tube).Nodup ↔ ∀ t, (entries g t).length ≤ 1 := by
  rw [List.nodup_iff_count_le_one]
  refine forall_congr' fun t => ?_
  rw [List.count_eq_countP, List.countP_map, List.countP_eq_length_filter]
  rfl

/-- A tube's supply from the records the arbiter holds for it. -/
theorem supply_congr (hgranted : h.granted.get t = g.granted.get t) (hlines : h.commands t = g.commands t)
    (hsafety : h.safety.get t = g.safety.get t) (hentries : entries h t = entries g t) : supply h t = supply g t := by
  simp only [supply, hgranted, hlines, hsafety, hentries]

/-! ### The granted sums of the headers (R88) -/

/-- The granted sum of every header lies within its limit (R88, R91). -/
def withinHeaders (g : Gas) (headers : Flows) : Prop :=
  ∀ l : GasLine, g.grantedSum l (fun _ => true) ≤ 1000 * headers.get l

theorem grantedSum_split (g : Gas) (t : Tube) (l : GasLine) :
    g.grantedSum l (fun _ => true) = g.grantedSum l (fun u => u ≠ t) + (g.granted.get t).get l := by
  cases t <;> simp [Gas.grantedSum, Tube.list] <;> omega

theorem grantedSum_others (hothers : ∀ u, u ≠ t → h.granted.get u = g.granted.get u) (l : GasLine) :
    h.grantedSum l (fun u => u ≠ t) = g.grantedSum l (fun u => u ≠ t) := by
  refine congrArg List.sum (List.map_congr_left fun u hu => ?_)
  rw [hothers u (by simpa using (List.mem_filter.1 hu).2)]

theorem withinHeaders_congr {headers : Flows} (hgranted : h.granted = g.granted) (hg : withinHeaders g headers) :
    withinHeaders h headers := by
  unfold withinHeaders Gas.grantedSum at *
  rwa [hgranted]

/-- A change of one tube's grant to flows that fit beside the other grants. -/
theorem withinHeaders_of_fits {headers : Flows} (hothers : ∀ u, u ≠ t → h.granted.get u = g.granted.get u)
    (hfits : ∀ l, g.grantedSum l (fun u => u ≠ t) + (h.granted.get t).get l ≤ 1000 * headers.get l) :
    withinHeaders h headers := by
  intro l
  rw [grantedSum_split h t, grantedSum_others hothers]
  exact hfits l

/-- A lowering of one tube's grant. -/
theorem withinHeaders_of_lowering {headers : Flows} (hg : withinHeaders g headers)
    (hothers : ∀ u, u ≠ t → h.granted.get u = g.granted.get u)
    (hlow : ∀ l, (h.granted.get t).get l ≤ (g.granted.get t).get l) : withinHeaders h headers := by
  refine withinHeaders_of_fits hothers fun l => ?_
  have hsum := hg l
  rw [grantedSum_split g t] at hsum
  have hle := hlow l
  omega

theorem mem_lines (l : GasLine) : l ∈ GasLine.list := by cases l <;> decide

theorem passes_iff {headers f : Flows} : g.passes headers t f = true ↔
    ∀ l, g.grantedSum l (fun u => u ≠ t) + f.get l ≤ 1000 * headers.get l := by
  simp [Gas.passes, Gas.fits, mem_lines]

theorem isLowering_iff {f : Flows} : g.isLowering t f = true ↔ ∀ l, f.get l ≤ (g.granted.get t).get l := by
  simp [Gas.isLowering, mem_lines]

/-! ### Operations on one tube -/

/-- `h` is `g` but for one tube's grant, commands, safety flag and queue entries; no readback changes. -/
structure TubeOnly (t : Tube) (g h : Gas) : Prop where
  others : ∀ u, u ≠ t → supply h u = supply g u
  readbacks : ∀ u l, readback h u l = readback g u l

theorem TubeOnly.refl (t : Tube) (g : Gas) : TubeOnly t g g := ⟨fun _ _ => rfl, fun _ _ => rfl⟩

theorem TubeOnly.trans (a : TubeOnly t g h) (b : TubeOnly t h k) : TubeOnly t g k :=
  ⟨fun u hu => (b.others u hu).trans (a.others u hu), fun u l => (b.readbacks u l).trans (a.readbacks u l)⟩

theorem TubeOnly.granted (a : TubeOnly t g h) (hu : u ≠ t) : h.granted.get u = g.granted.get u :=
  congrArg Supply.granted (a.others u hu)

theorem TubeOnly.commands (a : TubeOnly t g h) (hu : u ≠ t) : h.commands u = g.commands u :=
  congrArg Supply.commands (a.others u hu)

/-- A queue written so that the other tubes' entries stand. -/
theorem tubeOnly_queue {q : List GasEntry}
    (hq : ∀ u, u ≠ t → entries { g with queue := q } u = entries g u) : TubeOnly t g { g with queue := q } :=
  ⟨fun _ hu => supply_congr rfl rfl rfl (hq _ hu), fun _ _ => rfl⟩

theorem writeLines_commands (g : Gas) (t : Tube) (f : Flows) : (g.writeLines t f).commands t = f :=
  Gas.grant_commands_same g t f

theorem writeLines_commands_other (g : Gas) (hu : u ≠ t) (f : Flows) : (g.writeLines t f).commands u = g.commands u :=
  Gas.grant_commands_other g hu f

theorem writeLines_readback (g : Gas) (t : Tube) (f : Flows) (u : Tube) (l : GasLine) :
    readback (g.writeLines t f) u l = readback g u l := by
  by_cases hu : u = t
  · subst hu
    cases l <;> simp [readback, Gas.writeLines, PerLine.get]
  · simp [readback, Gas.writeLines, PerTube.get_set_other _ hu]

/-- A grant puts exactly its flows in force and ends the safety flow (R89, R91, R96). -/
theorem supply_grant (g : Gas) (t : Tube) (f : Flows) :
    supply (g.grant t f) t = { granted := f, commands := f, safety := false, entries := entries g t } := by
  simp only [supply, Gas.grant_granted, Gas.grant_safety, Gas.grant_commands_same, PerTube.get_set_same]
  rfl

theorem tubeOnly_grant (g : Gas) (t : Tube) (f : Flows) : TubeOnly t g (g.grant t f) where
  others _ hu := supply_congr (PerTube.get_set_other _ hu _) (Gas.grant_commands_other g hu f)
    (PerTube.get_set_other _ hu _) rfl
  readbacks := writeLines_readback g t f

theorem entries_removeEntry (g : Gas) (t : Tube) : entries (g.removeEntry t) t = [] := by
  simp [entries, Gas.removeEntry]

theorem tubeOnly_removeEntry (g : Gas) (t : Tube) : TubeOnly t g (g.removeEntry t) := by
  refine tubeOnly_queue fun u hu => ?_
  simp only [entries, List.filter_filter]
  refine List.filter_congr fun e _ => ?_
  by_cases he : e.tube = u
  · simp [he, hu]
  · simp [he]

/-- The queue with a change made to the entries of one tube. -/
def mapEntries (g : Gas) (t : Tube) (f : GasEntry → GasEntry) : Gas :=
  { g with queue := g.queue.map fun e => if e.tube = t then f e else e }

theorem entries_mapEntries (g : Gas) (t : Tube) {f : GasEntry → GasEntry} (hf : ∀ e, (f e).tube = e.tube) :
    entries (mapEntries g t f) t = (entries g t).map f := by
  simp only [entries, mapEntries, List.filter_map]
  have hmatch : ((fun e : GasEntry => decide (e.tube = t)) ∘ fun e => if e.tube = t then f e else e) =
      fun e => decide (e.tube = t) := by
    funext e
    by_cases he : e.tube = t <;> simp [he, hf]
  rw [hmatch]
  refine List.map_congr_left fun e he => ?_
  simp [(mem_entries.1 he).2]

theorem entries_mapEntries_other (g : Gas) (hu : u ≠ t) {f : GasEntry → GasEntry} (hf : ∀ e, (f e).tube = e.tube) :
    entries (mapEntries g t f) u = entries g u := by
  simp only [entries, mapEntries, List.filter_map]
  have hmatch : ((fun e : GasEntry => decide (e.tube = u)) ∘ fun e => if e.tube = t then f e else e) =
      fun e => decide (e.tube = u) := by
    funext e
    by_cases he : e.tube = t <;> simp [he, hf]
  rw [hmatch]
  refine (List.map_congr_left fun e he => ?_).trans (List.map_id _)
  rw [(mem_entries.1 he).2, if_neg hu, id]

theorem tubeOnly_mapEntries (g : Gas) (t : Tube) {f : GasEntry → GasEntry} (hf : ∀ e, (f e).tube = e.tube) :
    TubeOnly t g (mapEntries g t f) := tubeOnly_queue fun _ hu => entries_mapEntries_other g hu hf

/-- The queue with a new last entry (R91). -/
def joinQueue (g : Gas) (t : Tube) (f : Flows) : Gas :=
  { g with queue := g.queue ++ [{ tube := t, flows := f, age := 0, timedOut := false }] }

theorem entries_joinQueue (g : Gas) (t : Tube) (f : Flows) : entries (joinQueue g t f) t =
    entries g t ++ [{ tube := t, flows := f, age := 0, timedOut := false }] := by
  simp [entries, joinQueue]

theorem tubeOnly_joinQueue (g : Gas) (t : Tube) (f : Flows) : TubeOnly t g (joinQueue g t f) := by
  refine tubeOnly_queue fun u hu => ?_
  simp [entries, Ne.symm hu]

/-! ### A submission (R89, R91) -/

variable {headers f : Flows}

theorem submit_of_lowering (hlow : g.isLowering t f = true) : g.submit headers t f =
    ((g.removeEntry t).grant t f, .applied,
      (g.entry? t).isSome || GasLine.list.any fun l => f.get l < (g.granted.get t).get l) := by
  rw [Gas.submit, if_pos hlow]

theorem submit_of_entry (hraise : g.isLowering t f = false) (hentry : entries g t ≠ []) : g.submit headers t f =
    (mapEntries g t fun e => { e with flows := f }, .replaced,
      (g.queue.head?.map fun e => decide (e.tube = t)).getD false) := by
  rw [Gas.submit, if_neg (by simp [hraise]), if_pos (entry?_isSome_iff.2 hentry)]
  rfl

theorem submit_of_fit (hraise : g.isLowering t f = false) (hempty : g.queue = [])
    (hpasses : g.passes headers t f = true) : g.submit headers t f = (g.grant t f, .applied, false) := by
  have hentry : ¬ (g.entry? t).isSome = true := by simp [Gas.entry?, hempty]
  rw [Gas.submit, if_neg (by simp [hraise]), if_neg hentry, if_pos ⟨hempty, hpasses⟩]

theorem submit_of_wait (hraise : g.isLowering t f = false) (hentry : entries g t = [])
    (hwait : ¬ (g.queue = [] ∧ g.passes headers t f = true)) :
    g.submit headers t f = (joinQueue g t f, .queued, false) := by
  have hnone : ¬ (g.entry? t).isSome = true := fun h => entry?_isSome_iff.1 h hentry
  rw [Gas.submit, if_neg (by simp [hraise]), if_neg hnone, if_neg hwait]
  rfl

/-- What a submission does to its own tube: its flows are in force and no entry is left, or its entry waits with them. -/
inductive Submitted (t : Tube) (f : Flows) (g : Gas) (r : Gas × Verdict × Bool) : Prop where
  | applied (hverdict : r.2.1 = .applied)
      (hsupply : supply r.1 t = { granted := f, commands := f, safety := false, entries := [] })
  | waits (hverdict : r.2.1 ≠ .applied) (hgranted : r.1.granted = g.granted) (hlines : r.1.lines = g.lines)
      (hsafety : r.1.safety = g.safety) (hlength : (entries r.1 t).length = max 1 (entries g t).length)
      (hflows : ∀ e ∈ entries r.1 t, e.flows = f)

/-- The judgement of a submission: its outcome for the tube, the other tubes as they were, the headers kept (R88 to R91). -/
theorem submit_spec (g : Gas) (headers : Flows) (t : Tube) (f : Flows) :
    let r := g.submit headers t f
    Submitted t f g r ∧ TubeOnly t g r.1 ∧ (withinHeaders g headers → withinHeaders r.1 headers) := by
  cases hlow : g.isLowering t f with
  | true =>
    have honly := (tubeOnly_removeEntry g t).trans (tubeOnly_grant (g.removeEntry t) t f)
    have hsupply := supply_grant (g.removeEntry t) t f
    rw [entries_removeEntry] at hsupply
    rw [submit_of_lowering hlow]
    refine ⟨.applied rfl hsupply, honly, fun hg => withinHeaders_of_lowering hg (fun u hu => honly.granted hu) fun l => ?_⟩
    simpa using isLowering_iff.1 hlow l
  | false =>
    by_cases hentry : entries g t = []
    · by_cases hfit : g.queue = [] ∧ g.passes headers t f = true
      · have hsupply := supply_grant g t f
        rw [hentry] at hsupply
        rw [submit_of_fit hlow hfit.1 hfit.2]
        refine ⟨.applied rfl hsupply, tubeOnly_grant g t f, fun _ => ?_⟩
        refine withinHeaders_of_fits (fun u hu => (tubeOnly_grant g t f).granted hu) fun l => ?_
        simpa using passes_iff.1 hfit.2 l
      · have hentries := entries_joinQueue g t f
        rw [hentry, List.nil_append] at hentries
        rw [submit_of_wait hlow hentry hfit]
        exact ⟨.waits (by simp) rfl rfl rfl (by simp [hentries, hentry]) (by simp [hentries]),
          tubeOnly_joinQueue g t f, withinHeaders_congr rfl⟩
    · have hentries := entries_mapEntries g t (f := fun e => { e with flows := f }) fun _ => rfl
      have hpos := List.length_pos_of_ne_nil hentry
      rw [submit_of_entry hlow hentry]
      exact ⟨.waits (by simp) rfl rfl rfl (by rw [hentries, List.length_map]; omega) (by simp [hentries]),
        tubeOnly_mapEntries g t fun _ => rfl, withinHeaders_congr rfl⟩

end

/-- Settles O48: the cases of a submission, by whether it is a lowering, whether the tube waits already, and whether it
fits past an empty queue. -/
theorem admissionTestKeepsTheHeaders : Obligations.AdmissionTestKeepsTheHeaders := by
  refine ⟨fun g headers t f hkept => ?_, fun g headers t f hraise => ?_⟩
  · obtain ⟨hcase, honly, hheaders⟩ := submit_spec g headers t f
    refine ⟨fun happlied => ?_, fun hwaits => ?_, fun hlow => ?_⟩
    · cases hcase with
      | waits hverdict => exact absurd happlied hverdict
      | applied _ hsupply =>
        exact ⟨congrArg Supply.granted hsupply, congrArg Supply.commands hsupply,
          entry?_eq_none_iff.2 (congrArg Supply.entries hsupply), hheaders hkept,
          fun u hu => ⟨honly.granted hu, honly.commands hu⟩⟩
    · cases hcase with
      | applied hverdict => exact absurd hverdict hwaits
      | waits _ hgranted hlines _ hlength =>
        refine ⟨hgranted, hlines, entry?_isSome_iff.2 (List.ne_nil_of_length_pos ?_)⟩
        omega
    · rw [submit_of_lowering (isLowering_iff.2 hlow)]
  · have hraise : g.isLowering t f = false := by
      obtain ⟨l, hl⟩ := hraise
      exact Bool.eq_false_iff.2 fun h => Nat.not_le.2 hl (isLowering_iff.1 h l)
    refine ⟨fun hentry => ?_, fun hnone hqueue => ?_, fun hempty hfits => ?_, fun hempty hfits => ?_⟩
    · rw [submit_of_entry hraise (entry?_isSome_iff.1 hentry)]
      exact ⟨rfl, rfl⟩
    · rw [submit_of_wait hraise (entry?_eq_none_iff.1 hnone) fun h => hqueue h.1]
      exact ⟨rfl, rfl⟩
    · rw [submit_of_fit hraise hempty (passes_iff.2 hfits)]
    · rw [submit_of_wait hraise (by simp [entries, hempty]) fun h => hfits (passes_iff.1 h.2)]
      exact ⟨rfl, rfl⟩

end Sys2Proof.GasRules

/-! SUPPORT. The torch invariant and the hydrogen bounds tube by tube, and what an operation may do to them and to the header
sums in the course of an event: one rule per outcome of a submission (R86, R89, R103, R106, R110, R115, R118). -/

namespace Sys2Proof.GasInvariants

open Sys2Proof.Machine Sys2Proof.GasRules

/-! ### The invariants, tube by tube -/

/-- One tube's part of `State.torchesSound`. -/
structure Torch (a : AtmRec) (p : Supply) : Prop where
  hydrogen : 0 < p.commands.h2 → a.state = .ignite ∨ a.state = .lit
  igniter : a.igniter = true ↔ a.state = .ignite
  targetClass : a.targetClass = classOf a.target
  inForce : a.inForce = p.commands
  grants : if p.safety = true then
      p.granted = PerLine.all 0 ∧ p.commands.h2 = 0 ∧ (a.state = .safeFlow ∨ a.state = .waitHeader)
    else p.granted = p.commands
  waiting : p.entries ≠ [] ↔ a.awaited.isSome = true
  awaiting : a.awaited.isSome = true → a.state = .preflow ∨ a.state = .lit ∨ a.state = .waitHeader
  carries : ∀ e ∈ p.entries, 0 < e.flows.h2 → a.awaited = some .ignite ∨ a.awaited = some .lit
  single : p.entries.length ≤ 1

/-- Flows within the ratio limit that, where they lead to IGNITE, keep the ignition flow (R103, R110). -/
def flowsBounded (cfg : TubeConfig) (phase : Option Phase) (f : Flows) : Prop :=
  f.h2 ≤ cfg.ratio * f.o2 / 100 ∧ (phase = some .ignite → f.h2 ≤ cfg.ignitionH2)

/-- One tube's part of the hydrogen bounds of `State.ratiosKept`. -/
structure Bounded (cfg : TubeConfig) (a : AtmRec) (p : Supply) : Prop where
  ratio : p.commands.h2 ≤ cfg.ratio * p.commands.o2 / 100
  ignition : a.state = .ignite → p.commands.h2 ≤ cfg.ignitionH2
  target : a.target.h2 ≤ cfg.ratio * a.target.o2 / 100
  change : ∀ e ∈ p.entries, flowsBounded cfg a.awaited e.flows

/-- The torch of a tube of the bank. -/
def torchOf (s : State) (t : Tube) : Prop := Torch (s.atm.get t) (supply s.gas t)

/-- The hydrogen of a tube of the bank. -/
def boundedOf (s : State) (t : Tube) : Prop := Bounded (s.tubeConfig t) (s.atm.get t) (supply s.gas t)

theorem torchSound_iff (s : State) (t : Tube) : s.torchSound t ∧ (entries s.gas t).length ≤ 1 ↔ torchOf s t := by
  have hentry : ((s.gas.entry? t).isSome = (s.atm.get t).awaited.isSome) ↔
      (entries s.gas t ≠ [] ↔ (s.atm.get t).awaited.isSome = true) := by
    rw [Bool.eq_iff_iff, entry?_isSome_iff]
  have hcarries : (∀ e ∈ s.gas.queue, e.tube = t → 0 < e.flows.h2 →
        (s.atm.get t).awaited = some .ignite ∨ (s.atm.get t).awaited = some .lit) ↔
      ∀ e ∈ entries s.gas t, 0 < e.flows.h2 →
        (s.atm.get t).awaited = some .ignite ∨ (s.atm.get t).awaited = some .lit := by
    simp only [mem_entries, and_imp]
  unfold State.torchSound
  dsimp only
  rw [hentry, hcarries]
  exact ⟨fun ⟨⟨h1, h2, h3, h4, h5, h6, h7, h8⟩, h9⟩ => ⟨h1, h2, h3, h4, h5, h6, h7, h8, h9⟩,
    fun ⟨h1, h2, h3, h4, h5, h6, h7, h8, h9⟩ => ⟨⟨h1, h2, h3, h4, h5, h6, h7, h8⟩, h9⟩⟩

theorem torchesSound_iff (s : State) : s.torchesSound ↔ ∀ t, torchOf s t := by
  simp only [State.torchesSound, nodup_tubes_iff, ← torchSound_iff, ← forall_and]

theorem hydrogenBounded_iff (s : State) (t : Tube) : s.hydrogenBounded t ↔ boundedOf s t := by
  have hchange : (∀ e ∈ s.gas.queue, e.tube = t → e.flows.h2 ≤ (s.tubeConfig t).ratio * e.flows.o2 / 100 ∧
        ((s.atm.get t).awaited = some .ignite → e.flows.h2 ≤ (s.tubeConfig t).ignitionH2)) ↔
      ∀ e ∈ entries s.gas t, flowsBounded (s.tubeConfig t) (s.atm.get t).awaited e.flows := by
    simp only [mem_entries, and_imp, flowsBounded]
  unfold State.hydrogenBounded
  dsimp only
  rw [hchange]
  exact ⟨fun ⟨h1, h2, h3, h4⟩ => ⟨h1, h2, h3, h4⟩, fun ⟨h1, h2, h3, h4⟩ => ⟨h1, h2, h3, h4⟩⟩

/-! ### Flow sets and their classes (R101, R103, R110) -/

theorem classOf_steam_iff (f : Flows) : classOf f = .steam ↔ 0 < f.h2 := by
  unfold classOf
  split
  · simp_all
  · split
    · simp_all
    · split <;> simp_all

theorem clampFlows_ratio (ratio : Nat) (f : Flows) :
    (clampFlows ratio f).h2 ≤ ratio * (clampFlows ratio f).o2 / 100 := Nat.min_le_right _ _

theorem ignitionFlows_bounded (cfg : TubeConfig) (target : Flows) :
    flowsBounded cfg (some .ignite) (cfg.ignitionFlows target) :=
  ⟨(Nat.min_le_right _ _).trans (Nat.min_le_right _ _), fun _ => Nat.min_le_left _ _⟩

/-- Flows without hydrogen keep every bound. -/
theorem flowsBounded_of_zero {cfg : TubeConfig} {phase : Option Phase} {f : Flows} (h : f.h2 = 0) :
    flowsBounded cfg phase f := ⟨by omega, fun _ => by omega⟩

/-! ### The phases of a controller (R106) -/

section

variable {a b : AtmRec} {p : Supply} {cfg : TubeConfig} {f : Flows} {phase : Phase} {origin : WaitOrigin}

@[simp] theorem enterPhase_state (a : AtmRec) (cfg : TubeConfig) (phase : Phase) :
    (a.enterPhase cfg phase).state = phase.state := by
  unfold AtmRec.enterPhase
  split
  · assumption
  · cases phase <;> rfl

/-- Entry into IGNITE from another state lights the igniter; every other entry leaves it (R110). -/
theorem enterPhase_igniter (a : AtmRec) (cfg : TubeConfig) (phase : Phase) : (a.enterPhase cfg phase).igniter =
    if phase = .ignite ∧ a.state ≠ .ignite then true else a.igniter := by
  unfold AtmRec.enterPhase
  cases phase <;> split <;> simp_all [Phase.state, AtmRec.beginPurge]

/-- What no entry into a phase writes. -/
theorem enterPhase_frame (a : AtmRec) (cfg : TubeConfig) (phase : Phase) :
    (a.enterPhase cfg phase).target = a.target ∧ (a.enterPhase cfg phase).targetClass = a.targetClass ∧
    (a.enterPhase cfg phase).inForce = a.inForce ∧ (a.enterPhase cfg phase).cls = a.cls ∧
    (a.enterPhase cfg phase).purged = a.purged := by
  unfold AtmRec.enterPhase
  split
  · exact ⟨rfl, rfl, rfl, rfl, rfl⟩
  · cases phase <;> exact ⟨rfl, rfl, rfl, rfl, rfl⟩

@[simp] theorem land_state (a : AtmRec) (cfg : TubeConfig) (phase : Phase) (f : Flows) :
    (a.land cfg phase f).state = phase.state := enterPhase_state ..

@[simp] theorem land_awaited (a : AtmRec) (cfg : TubeConfig) (phase : Phase) (f : Flows) :
    (a.land cfg phase f).awaited = none := rfl

@[simp] theorem land_inForce (a : AtmRec) (cfg : TubeConfig) (phase : Phase) (f : Flows) :
    (a.land cfg phase f).inForce = f := by
  obtain ⟨-, -, hforce, -, -⟩ := enterPhase_frame (a.takeFlows cfg f (phase = .preflow || phase = .ignite)) cfg phase
  exact hforce

@[simp] theorem land_target (a : AtmRec) (cfg : TubeConfig) (phase : Phase) (f : Flows) :
    (a.land cfg phase f).target = a.target := by
  obtain ⟨htarget, -, -, -, -⟩ := enterPhase_frame (a.takeFlows cfg f (phase = .preflow || phase = .ignite)) cfg phase
  exact htarget

@[simp] theorem land_targetClass (a : AtmRec) (cfg : TubeConfig) (phase : Phase) (f : Flows) :
    (a.land cfg phase f).targetClass = a.targetClass := by
  obtain ⟨-, hclass, -, -, -⟩ := enterPhase_frame (a.takeFlows cfg f (phase = .preflow || phase = .ignite)) cfg phase
  exact hclass

theorem land_igniter (a : AtmRec) (cfg : TubeConfig) (phase : Phase) (f : Flows) : (a.land cfg phase f).igniter =
    if phase = .ignite ∧ a.state ≠ .ignite then true else a.igniter := enterPhase_igniter ..

theorem phase_state_ignite_iff : phase.state = .ignite ↔ phase = .ignite := by
  cases phase <;> simp [Phase.state]

/-- A change that waits leaves PREFLOW and LIT and takes every other state to WAIT_HEADER (R106). -/
theorem wait_state (a : AtmRec) (phase : Phase) (origin : WaitOrigin) : (a.wait phase origin).state =
    if a.state = .preflow ∨ a.state = .lit then a.state else .waitHeader := by
  unfold AtmRec.wait
  split <;> rfl

theorem wait_frame (a : AtmRec) (phase : Phase) (origin : WaitOrigin) :
    (a.wait phase origin).awaited = some phase ∧ (a.wait phase origin).igniter = a.igniter ∧
    (a.wait phase origin).target = a.target ∧ (a.wait phase origin).targetClass = a.targetClass ∧
    (a.wait phase origin).inForce = a.inForce := by
  unfold AtmRec.wait
  split <;> exact ⟨rfl, rfl, rfl, rfl, rfl⟩

/-! ### The rules of the torch -/

/-- A record that differs in none of the fields the torch reads. -/
theorem Torch.congr (h : Torch a p) (hstate : b.state = a.state) (higniter : b.igniter = a.igniter)
    (htarget : b.targetClass = classOf b.target) (hforce : b.inForce = a.inForce) (hawaited : b.awaited = a.awaited) :
    Torch b p where
  hydrogen := by rw [hstate]; exact h.hydrogen
  igniter := by rw [higniter, hstate]; exact h.igniter
  targetClass := htarget
  inForce := hforce.trans h.inForce
  grants := by rw [hstate]; exact h.grants
  waiting := by rw [hawaited]; exact h.waiting
  awaiting := by rw [hawaited, hstate]; exact h.awaiting
  carries := by rw [hawaited]; exact h.carries
  single := h.single

/-- Outside IGNITE the igniter is off. -/
theorem Torch.igniter_off (h : Torch a p) (hstate : a.state ≠ .ignite) : a.igniter = false :=
  Bool.eq_false_iff.2 fun hon => hstate (h.igniter.1 hon)

/-- A target of another class than STEAM carries no hydrogen. -/
theorem Torch.target_dry (h : Torch a p) (hclass : a.targetClass ≠ .steam) : a.target.h2 = 0 := by
  rw [h.targetClass, Ne, classOf_steam_iff] at hclass
  omega

/-- A change in force: hydrogen flows only where it leads to IGNITE or LIT. -/
theorem Torch.land (h : Torch a p) (hstate : a.state ≠ .ignite)
    (hcarries : 0 < f.h2 → phase = .ignite ∨ phase = .lit) :
    Torch (a.land cfg phase f) { granted := f, commands := f, safety := false, entries := [] } where
  hydrogen hf := by
    obtain rfl | rfl := hcarries hf
    · exact .inl (land_state ..)
    · exact .inr (land_state ..)
  igniter := by
    rw [land_igniter, land_state, h.igniter_off hstate]
    cases phase <;> simp [hstate, Phase.state]
  targetClass := by rw [land_targetClass, land_target]; exact h.targetClass
  inForce := land_inForce ..
  grants := rfl
  waiting := by simp
  awaiting := by simp
  carries := by simp
  single := Nat.zero_le _

/-- A change that waits: the flows in force stand, and the entry carries the flows submitted. -/
theorem Torch.wait {es : List GasEntry} (h : Torch a p) (hstate : a.state ≠ .ignite)
    (hcarries : 0 < f.h2 → phase = .ignite ∨ phase = .lit) (hlength : es.length = max 1 p.entries.length)
    (hflows : ∀ e ∈ es, e.flows = f) : Torch (a.wait phase origin) { p with entries := es } := by
  have hnew := wait_state a phase origin
  obtain ⟨hawaited, higniter, htarget, hclass, hforce⟩ := wait_frame a phase origin
  have hsingle := h.single
  refine ⟨fun hf => .inr ?_, ?_, ?_, hforce.trans h.inForce, ?_, ?_, fun _ => ?_, fun e he hf => ?_, by dsimp only; omega⟩
  · have hlit := (h.hydrogen hf).resolve_left hstate
    rw [hnew, if_pos (.inr hlit), hlit]
  · rw [higniter, h.igniter_off hstate, hnew]
    split <;> simp [hstate]
  · rw [hclass, htarget]
    exact h.targetClass
  · have hgrants := h.grants
    dsimp only
    split at hgrants
    next hsafety =>
      obtain ⟨hzero, hdry, hsafe⟩ := hgrants
      rw [if_pos hsafety, hnew, if_neg (by obtain h | h := hsafe <;> simp [h])]
      exact ⟨hzero, hdry, .inr rfl⟩
    next hsafety =>
      rw [if_neg hsafety]
      exact hgrants
  · rw [hawaited]
    exact iff_of_true (List.ne_nil_of_length_pos (by dsimp only; omega)) rfl
  · rw [hnew]
    split
    next hkept => exact hkept.imp_right .inl
    next => exact .inr (.inr rfl)
  · rw [hflows e he] at hf
    rw [hawaited]
    exact (hcarries hf).imp (congrArg some) (congrArg some)

/-- A change in force keeps the bounds that its flows keep. -/
theorem Bounded.land {q : Supply} (h : Bounded cfg a q) (hflows : flowsBounded cfg (some phase) f) :
    Bounded cfg (a.land cfg phase f) { granted := f, commands := f, safety := false, entries := [] } where
  ratio := hflows.1
  ignition hstate := hflows.2 (congrArg some (phase_state_ignite_iff.1 ((land_state ..).symm.trans hstate)))
  target := by rw [land_target]; exact h.target
  change := by simp

theorem Bounded.wait {es : List GasEntry} (h : Bounded cfg a p) (hstate : a.state ≠ .ignite)
    (hbounded : flowsBounded cfg (some phase) f) (hflows : ∀ e ∈ es, e.flows = f) :
    Bounded cfg (a.wait phase origin) { p with entries := es } := by
  obtain ⟨hawaited, -, htarget, -, -⟩ := wait_frame a phase origin
  refine ⟨h.ratio, fun hnew => ?_, by rw [htarget]; exact h.target, fun e he => ?_⟩
  · rw [wait_state] at hnew
    split at hnew
    · exact absurd hnew hstate
    · cases hnew
  · rw [hawaited, hflows e he]
    exact hbounded

/-! ### What an operation keeps -/

/-- `n` keeps the header sums, the torches and the hydrogen bounds that `s` keeps, under the same configuration. -/
structure GasKept (s n : State) : Prop where
  config : n.config = s.config
  headers : s.headersKept → n.headersKept
  torch : ∀ t, torchOf s t → torchOf n t
  bounded : ∀ t, torchOf s t → boundedOf s t → boundedOf n t

/-- `n` keeps them and the readbacks: all that an event does to the gas supply once its first work is done. -/
structure GasHeld (s n : State) : Prop extends GasKept s n where
  readbacks : ∀ t l, readback n.gas t l = readback s.gas t l

/-- Nothing that the gas supply reads has changed. -/
structure SameGas (s n : State) : Prop where
  gas : n.gas = s.gas
  atm : n.atm = s.atm
  config : n.config = s.config

variable {s n m : State} {c : Ctx} {t : Tube}

theorem GasKept.refl (s : State) : GasKept s s := ⟨rfl, id, fun _ => id, fun _ _ => id⟩

theorem GasKept.trans (h : GasKept s n) (k : GasKept n m) : GasKept s m where
  config := k.config.trans h.config
  headers := k.headers ∘ h.headers
  torch t := k.torch t ∘ h.torch t
  bounded t ht := k.bounded t (h.torch t ht) ∘ h.bounded t ht

theorem GasHeld.refl (s : State) : GasHeld s s := ⟨.refl s, fun _ _ => rfl⟩

theorem GasHeld.trans (h : GasHeld s n) (k : GasHeld n m) : GasHeld s m :=
  ⟨h.toGasKept.trans k.toGasKept, fun t l => (k.readbacks t l).trans (h.readbacks t l)⟩

theorem SameGas.refl (s : State) : SameGas s s := ⟨rfl, rfl, rfl⟩

theorem SameGas.trans (h : SameGas s n) (k : SameGas n m) : SameGas s m :=
  ⟨k.gas.trans h.gas, k.atm.trans h.atm, k.config.trans h.config⟩

theorem SameGas.held (h : SameGas s n) : GasHeld s n where
  config := h.config
  headers hs := by
    unfold State.headersKept at *
    rwa [h.gas, h.config]
  torch t ht := by
    unfold torchOf at *
    rwa [h.atm, h.gas]
  bounded t _ hb := by
    unfold boundedOf State.tubeConfig at *
    rwa [h.atm, h.gas, h.config]
  readbacks t l := by rw [h.gas]

theorem SameGas.kept (h : SameGas s n) : GasKept s n := h.held.toGasKept

/-- Arbiter records written that leave every tube's supply as it was. -/
theorem gasKept_setGas {g : Gas} (hgranted : g.granted = s.gas.granted)
    (hsupply : ∀ u, supply g u = supply s.gas u) : GasKept s (s.setGas g) where
  config := rfl
  headers := withinHeaders_congr hgranted
  torch u hu := by
    show Torch (s.atm.get u) (supply g u)
    rwa [hsupply u]
  bounded u _ hb := by
    show Bounded (s.tubeConfig u) (s.atm.get u) (supply g u)
    rwa [hsupply u]

/-- An operation on one tube. -/
theorem GasHeld.of_tube (hconfig : n.config = s.config) (honly : TubeOnly t s.gas n.gas)
    (hatm : ∀ u, u ≠ t → n.atm.get u = s.atm.get u)
    (hheaders : withinHeaders s.gas s.config.bank.headers → withinHeaders n.gas s.config.bank.headers)
    (htorch : torchOf s t → torchOf n t) (hbounded : torchOf s t → boundedOf s t → boundedOf n t) : GasHeld s n where
  config := hconfig
  headers hs := by
    unfold State.headersKept
    rw [hconfig]
    exact hheaders hs
  torch u hu := by
    by_cases he : u = t
    · exact he ▸ htorch (he ▸ hu)
    · unfold torchOf
      rw [hatm u he, honly.others u he]
      exact hu
  bounded u hu hb := by
    by_cases he : u = t
    · exact he ▸ hbounded (he ▸ hu) (he ▸ hb)
    · unfold boundedOf State.tubeConfig
      rw [hatm u he, honly.others u he, hconfig]
      exact hb
  readbacks := honly.readbacks

/-- Arbiter records written that leave a tube's grant, commands and safety flag, and the flows of its entries. -/
theorem gasHeld_setGas {g : Gas} {f : GasEntry → GasEntry} (honly : TubeOnly t s.gas g)
    (hgranted : g.granted = s.gas.granted) (hflows : ∀ e, (f e).flows = e.flows)
    (hsupply : supply g t = { supply s.gas t with entries := (entries s.gas t).map f }) : GasHeld s (s.setGas g) := by
  refine .of_tube rfl honly (fun _ _ => rfl) (withinHeaders_congr hgranted) (fun h => ?_) (fun _ h => ?_)
  · show Torch (s.atm.get t) (supply g t)
    rw [hsupply]
    exact ⟨h.hydrogen, h.igniter, h.targetClass, h.inForce, h.grants, by simpa using h.waiting, h.awaiting,
      by simpa [hflows] using h.carries, by simpa using h.single⟩
  · show Bounded (s.tubeConfig t) (s.atm.get t) (supply g t)
    rw [hsupply]
    exact ⟨h.ratio, h.ignition, h.target, by simpa [hflows] using h.change⟩

/-- Operations on one tube's arbiter records and atmosphere record, in terms of what they leave there. -/
theorem gasHeld_setGas_setAtm {g : Gas} {b : AtmRec} (honly : TubeOnly t s.gas g)
    (hheaders : withinHeaders s.gas s.config.bank.headers → withinHeaders g s.config.bank.headers)
    (htorch : Torch (s.atm.get t) (supply s.gas t) → Torch b (supply g t))
    (hbounded : Torch (s.atm.get t) (supply s.gas t) →
      Bounded (s.tubeConfig t) (s.atm.get t) (supply s.gas t) → Bounded (s.tubeConfig t) b (supply g t)) :
    GasHeld s ((s.setGas g).setAtm t b) := by
  have hatm : ((s.setGas g).setAtm t b).atm.get t = b := PerTube.get_set_same ..
  refine .of_tube rfl honly (fun u hu => PerTube.get_set_other _ hu _) hheaders (fun h => ?_) (fun ht hb => ?_)
  · unfold torchOf
    rw [hatm]
    exact htorch h
  · unfold boundedOf
    rw [hatm]
    exact hbounded ht hb

/-- An atmosphere record written with the fields the torch reads as they were, and a target that keeps the ratio limit. -/
theorem gasHeld_setTarget {b : AtmRec} (hstate : b.state = (s.atm.get t).state)
    (higniter : b.igniter = (s.atm.get t).igniter) (hforce : b.inForce = (s.atm.get t).inForce)
    (hawaited : b.awaited = (s.atm.get t).awaited)
    (hclass : Torch (s.atm.get t) (supply s.gas t) → b.targetClass = classOf b.target)
    (hratio : (s.atm.get t).target.h2 ≤ (s.tubeConfig t).ratio * (s.atm.get t).target.o2 / 100 →
      b.target.h2 ≤ (s.tubeConfig t).ratio * b.target.o2 / 100) : GasHeld s (s.setAtm t b) := by
  refine gasHeld_setGas_setAtm (g := s.gas) (.refl t _) id
    (fun h => h.congr hstate higniter (hclass h) hforce hawaited) (fun _ h => ?_)
  exact ⟨h.ratio, by rw [hstate]; exact h.ignition, hratio h.target, by rw [hawaited]; exact h.change⟩

/-- An atmosphere record written with the target as it was, too. -/
theorem gasHeld_setAtm {b : AtmRec} (hstate : b.state = (s.atm.get t).state)
    (higniter : b.igniter = (s.atm.get t).igniter) (hforce : b.inForce = (s.atm.get t).inForce)
    (hawaited : b.awaited = (s.atm.get t).awaited) (htarget : b.target = (s.atm.get t).target)
    (hclass : b.targetClass = (s.atm.get t).targetClass) : GasHeld s (s.setAtm t b) :=
  gasHeld_setTarget hstate higniter hforce hawaited (fun h => by rw [hclass, htarget]; exact h.targetClass)
    (by rw [htarget]; exact id)

/-! ### Changes of flows (R89, R106, R115) -/

/-- A change of flows made outside IGNITE, that leads hydrogen to IGNITE or LIT alone and keeps the bounds. -/
theorem gasHeld_submitChange {f : Flows} {phase : Phase} (origin : WaitOrigin)
    (hstate : (c.s.atm.get t).state ≠ .ignite)
    (hcarries : Torch (c.s.atm.get t) (supply c.s.gas t) → 0 < f.h2 → phase = .ignite ∨ phase = .lit)
    (hflows : Bounded (c.s.tubeConfig t) (c.s.atm.get t) (supply c.s.gas t) →
      flowsBounded (c.s.tubeConfig t) (some phase) f) : GasHeld c.s (submitChange t f phase origin c).1.s := by
  obtain ⟨hcase, honly, hheaders⟩ := submit_spec c.s.gas c.s.config.bank.headers t f
  unfold submitChange
  dsimp only [Ctx.put_s]
  cases hcase with
  | applied hverdict hsupply =>
    have hcommands := congrArg Supply.commands hsupply
    rw [supply_commands] at hcommands
    rw [hverdict, hcommands]
    refine gasHeld_setGas_setAtm honly hheaders (fun h => ?_) (fun _ h => ?_) <;> rw [hsupply]
    · exact h.land hstate (hcarries h)
    · exact h.land (hflows h)
  | waits hverdict hgranted hlines hsafety hlength hentries =>
    have hsupply : supply (c.s.gas.submit c.s.config.bank.headers t f).1 t =
        { supply c.s.gas t with entries := entries (c.s.gas.submit c.s.config.bank.headers t f).1 t } := by
      simp only [supply, Gas.commands, hgranted, hlines, hsafety]
    split
    next happlied => exact absurd happlied hverdict
    next =>
      refine gasHeld_setGas_setAtm honly hheaders (fun h => ?_) (fun _ h => ?_) <;> rw [hsupply]
      · exact h.wait hstate (hcarries h) hlength hentries
      · exact h.wait hstate (hflows h) hentries

/-- A change of flows without hydrogen. -/
theorem gasHeld_submitDry {f : Flows} {phase : Phase} (origin : WaitOrigin)
    (hstate : (c.s.atm.get t).state ≠ .ignite)
    (hdry : Torch (c.s.atm.get t) (supply c.s.gas t) → f.h2 = 0)
    (hbounded : Bounded (c.s.tubeConfig t) (c.s.atm.get t) (supply c.s.gas t) →
      flowsBounded (c.s.tubeConfig t) (some phase) f) :
    GasHeld c.s (submitChange t f phase origin c).1.s :=
  gasHeld_submitChange origin hstate (fun h hf => absurd (hdry h) (by omega)) hbounded

/-- The extinguish flows lower the flows in force, so the arbiter applies them at once (R89, R115). -/
theorem submit_extinguish {g : Gas} {headers inForce : Flows} (hgranted : g.granted.get t = inForce) :
    let r := g.submit headers t (extinguishFlows inForce)
    supply r.1 t = { granted := extinguishFlows inForce, commands := extinguishFlows inForce, safety := false,
                     entries := [] } := by
  have hlow : g.isLowering t (extinguishFlows inForce) = true := by
    refine isLowering_iff.2 fun l => ?_
    rw [hgranted]
    cases l <;> simp [extinguishFlows, PerLine.get]
  obtain ⟨hcase, -, -⟩ := submit_spec g headers t (extinguishFlows inForce)
  cases hcase with
  | applied _ hsupply => exact hsupply
  | waits hverdict => exact absurd (by rw [submit_of_lowering hlow]) hverdict

/-- An extinguish of a torch that is being prepared or burns (R115). -/
theorem gasHeld_extinguish (mid : List Task) (hstate : (c.s.atm.get t).state.torch = true) :
    GasHeld c.s (extinguish t mid c).1.s := by
  obtain ⟨-, honly, hheaders⟩ := submit_spec c.s.gas c.s.config.bank.headers t (extinguishFlows (c.s.atm.get t).inForce)
  have hsupply : Torch (c.s.atm.get t) (supply c.s.gas t) → _ := fun h => by
    have hgrants := h.grants
    rw [if_neg] at hgrants
    · exact submit_extinguish (headers := c.s.config.bank.headers) (hgrants.trans h.inForce.symm)
    · intro hsafety
      rw [if_pos hsafety] at hgrants
      obtain ⟨-, -, hsafe | hsafe⟩ := hgrants <;> simp [hsafe, AtmState.torch] at hstate
  unfold extinguish
  dsimp only [Ctx.put_s]
  refine gasHeld_setGas_setAtm honly hheaders (fun h => ?_) (fun h hb => ?_)
  · have hcommands := congrArg Supply.commands (hsupply h)
    rw [supply_commands] at hcommands
    rw [hsupply h, hcommands]
    exact ⟨fun hf => absurd hf (by simp [extinguishFlows]), by simp, h.targetClass, rfl, rfl, by simp, by simp, by simp,
      Nat.zero_le _⟩
  · rw [hsupply h]
    exact ⟨Nat.zero_le _, by simp, hb.target, by simp⟩

/-! ### Admission, withdrawal and the safety flow (R92, R96, R117, R118) -/

/-- The admitted head: its flows are in force, and the header sums are kept (R91, R92). -/
theorem admitHead_spec {g h : Gas} {headers : Flows} (hadmit : g.admitHead headers = some (h, t)) :
    ∃ e rest, entries g t = e :: rest ∧ TubeOnly t g h ∧ withinHeaders h headers ∧
      supply h t = { granted := e.flows, commands := e.flows, safety := false, entries := rest } := by
  unfold Gas.admitHead at hadmit
  split at hadmit
  · cases hadmit
  next e rest hqueue =>
    split at hadmit
    next hpasses =>
      cases hadmit
      have hpopped : TubeOnly e.tube g { g with queue := rest } := by
        refine tubeOnly_queue fun u hu => ?_
        simp [entries, hqueue, Ne.symm hu]
      have honly := hpopped.trans (tubeOnly_grant { g with queue := rest } e.tube e.flows)
      refine ⟨e, rest.filter fun x => x.tube = e.tube, by simp [entries, hqueue], honly, ?_, supply_grant ..⟩
      refine withinHeaders_of_fits (fun u hu => honly.granted hu) fun l => ?_
      simpa using passes_iff.1 hpasses l
    next => cases hadmit

theorem gasHeld_taskExamine (c : Ctx) : GasHeld c.s (taskExamine c).1.s := by
  unfold taskExamine
  split
  next g t hadmit =>
    obtain ⟨e, rest, hentries, honly, hheaders, hsupply⟩ := admitHead_spec hadmit
    have hmem : e ∈ (supply c.s.gas t).entries := by simp [hentries]
    have hrest : Torch (c.s.atm.get t) (supply c.s.gas t) → rest = [] := fun h => by
      have hsingle := h.single
      simpa [hentries] using hsingle
    have hcommands := congrArg Supply.commands hsupply
    rw [supply_commands] at hcommands
    dsimp only [Ctx.put_s]
    rw [hcommands]
    refine gasHeld_setGas_setAtm honly (fun _ => hheaders) (fun h => ?_) (fun h hb => ?_) <;>
      rw [hsupply, hrest h]
    · have hawaited := h.waiting.1 (List.ne_nil_of_mem hmem)
      have hcarries := h.carries e hmem
      have hstate := h.awaiting hawaited
      split
      next p hp =>
        rw [hp] at hcarries
        exact h.land (by obtain hs | hs | hs := hstate <;> simp [hs]) (by simpa using hcarries)
      next hnone => simp [hnone] at hawaited
    · have hawaited := h.waiting.1 (List.ne_nil_of_mem hmem)
      have hchange := hb.change e hmem
      split
      next p hp =>
        rw [hp] at hchange
        exact hb.land hchange
      next hnone => simp [hnone] at hawaited
  next => exact .refl _

theorem gasHeld_taskWithdraw (t : Tube) (c : Ctx) : GasHeld c.s (taskWithdraw t c).1.s := by
  unfold taskWithdraw
  split
  · exact .refl _
  · have hsupply : supply (c.s.gas.removeEntry t) t = { supply c.s.gas t with entries := [] } := by
      rw [← entries_removeEntry c.s.gas t]
      rfl
    dsimp only [Ctx.put_s]
    refine gasHeld_setGas_setAtm (tubeOnly_removeEntry ..) (withinHeaders_congr rfl) (fun h => ?_) (fun h hb => ?_) <;>
      rw [hsupply]
    · exact ⟨h.hydrogen, h.igniter, rfl, h.inForce, h.grants, by simp, by simp, by simp, Nat.zero_le _⟩
    · refine ⟨hb.ratio, hb.ignition, ?_, by simp⟩
      dsimp only
      rw [h.inForce]
      exact hb.ratio

/-- The safety flow: grants of 0 and nitrogen alone (R96). -/
theorem enterSafety_spec (g : Gas) (t : Tube) (v : Nat) : TubeOnly t g (g.enterSafety t v) ∧
    supply (g.enterSafety t v) t = { granted := PerLine.all 0, commands := { n2 := v, o2 := 0, h2 := 0, aux := 0 },
                                     safety := true, entries := [] } := by
  have hremoved := tubeOnly_removeEntry g t
  refine ⟨⟨fun u hu => ?_, fun u l => writeLines_readback (g.removeEntry t) t _ u l⟩, ?_⟩
  · refine supply_congr (PerTube.get_set_other _ hu _) (writeLines_commands_other (g.removeEntry t) hu _)
      (PerTube.get_set_other _ hu _) ?_
    exact congrArg Supply.entries (hremoved.others u hu)
  · have hcommands := writeLines_commands (g.removeEntry t) t { n2 := v, o2 := 0, h2 := 0, aux := 0 }
    have hentries := entries_removeEntry g t
    simp only [supply, Supply.mk.injEq]
    exact ⟨PerTube.get_set_same .., hcommands, PerTube.get_set_same .., hentries⟩

theorem gasHeld_taskSafeFlow (t : Tube) (c : Ctx) : GasHeld c.s (taskSafeFlow t c).1.s := by
  obtain ⟨honly, hsupply⟩ := enterSafety_spec c.s.gas t (c.s.tubeConfig t).safetyN2
  unfold taskSafeFlow
  dsimp only [Ctx.put_s]
  refine gasHeld_setGas_setAtm honly (fun hg => ?_) (fun h => ?_) (fun h hb => ?_)
  · refine withinHeaders_of_lowering hg (fun u hu => honly.granted hu) fun l => ?_
    rw [← supply_granted, hsupply]
    simp
  · rw [← supply_commands, hsupply]
    exact ⟨by simp, by simp, h.targetClass, rfl, by simp, by simp, by simp, by simp, Nat.zero_le _⟩
  · rw [hsupply]
    exact ⟨Nat.zero_le _, by simp, hb.target, by simp⟩

end

end Sys2Proof.GasInvariants

/-! SUPPORT. What the messages of an event do to the gas supply: every message keeps the header sums, the torches, the hydrogen
bounds and the readbacks, and before COMMISSION the messages that can be given change no flow (R5, R86 to R118). -/

namespace Sys2Proof.GasEvents

open Sys2Proof.Machine Sys2Proof.ZoneRules Sys2Proof.ZoneInvariants Sys2Proof.ZoneEvents Sys2Proof.ZoneSteps
  Sys2Proof.GasRules Sys2Proof.GasInvariants

section

variable {s n : State} {c : Ctx} {t : Tube}

/-! ### The gas supply arbiter (R95, R97, R98) -/

/-- Line records written with their commands and readbacks as they were. -/
theorem supply_setLines {g : Gas} {ls : PerLine LineRec}
    (hcommand : ∀ l, (ls.get l).command = ((g.lines.get t).get l).command) (u : Tube) :
    supply { g with lines := g.lines.set t ls } u = supply g u := by
  refine supply_congr rfl ?_ rfl rfl
  by_cases hu : u = t
  · subst hu
    simp only [Gas.commands, PerTube.get_set_same, PerLine.mk.injEq]
    exact ⟨hcommand .n2, hcommand .o2, hcommand .h2, hcommand .aux⟩
  · simp [Gas.commands, PerTube.get_set_other _ hu]

theorem readback_setLines {g : Gas} {ls : PerLine LineRec}
    (hread : ∀ l, (ls.get l).readback = ((g.lines.get t).get l).readback) (u : Tube) (l : GasLine) :
    readback { g with lines := g.lines.set t ls } u l = readback g u l := by
  by_cases hu : u = t
  · subst hu
    simpa [readback] using hread l
  · simp [readback, PerTube.get_set_other _ hu]

theorem gasHeld_setLines {ls : PerLine LineRec}
    (hcommand : ∀ l, (ls.get l).command = ((s.gas.lines.get t).get l).command)
    (hread : ∀ l, (ls.get l).readback = ((s.gas.lines.get t).get l).readback) :
    GasHeld s (s.setGas { s.gas with lines := s.gas.lines.set t ls }) :=
  ⟨gasKept_setGas rfl (supply_setLines hcommand), readback_setLines hread⟩

/-- A mark of a tube's entries that leaves their flows. -/
theorem gasHeld_mapEntries {f : GasEntry → GasEntry} (htube : ∀ e, (f e).tube = e.tube)
    (hflows : ∀ e, (f e).flows = e.flows) : GasHeld s (s.setGas (mapEntries s.gas t f)) := by
  refine gasHeld_setGas (tubeOnly_mapEntries _ t htube) rfl hflows ?_
  rw [← entries_mapEntries s.gas t htube]
  rfl

theorem gasHeld_taskHeaderWait (t : Tube) (c : Ctx) : GasHeld c.s (taskHeaderWait t c).1.s := by
  unfold taskHeaderWait
  dsimp only
  split
  · split
    · exact gasHeld_mapEntries (f := fun e => { e with timedOut := true }) (fun _ => rfl) fun _ => rfl
    · exact .refl _
  · exact .refl _

theorem gasHeld_taskFlowDeviation (t : Tube) (l : GasLine) (c : Ctx) : GasHeld c.s (taskFlowDeviation t l c).1.s := by
  unfold taskFlowDeviation
  dsimp only
  split
  · refine gasHeld_setLines (fun k => ?_) (fun k => ?_) <;> by_cases hk : k = l
    · subst hk; simp
    · rw [PerLine.get_set_other _ hk]
    · subst hk; simp
    · rw [PerLine.get_set_other _ hk]
  · exact .refl _

/-- A tick counts a line without a new command or readback (R97, R98). -/
theorem tick_frame (r : LineRec) (scale : Nat) :
    (r.tick scale).command = r.command ∧ (r.tick scale).readback = r.readback := by
  unfold LineRec.tick
  split
  · exact ⟨rfl, rfl⟩
  · dsimp only
    split <;> exact ⟨rfl, rfl⟩

theorem raiseAtTick_frame (r : LineRec) (scale : Nat) :
    (r.raiseAtTick scale).command = r.command ∧ (r.raiseAtTick scale).readback = r.readback := by
  unfold LineRec.raiseAtTick
  split <;> exact ⟨rfl, rfl⟩

/-- The lines of a tube after its gas tick has counted and marked them (R97, R98). -/
def tickedLines (ls : PerLine LineRec) (scale : Flows) : PerLine LineRec :=
  { n2 := (ls.n2.tick scale.n2).raiseAtTick scale.n2, o2 := (ls.o2.tick scale.o2).raiseAtTick scale.o2,
    h2 := (ls.h2.tick scale.h2).raiseAtTick scale.h2, aux := (ls.aux.tick scale.aux).raiseAtTick scale.aux }

theorem tickedLines_get (ls : PerLine LineRec) (scale : Flows) (l : GasLine) :
    (tickedLines ls scale).get l = ((ls.get l).tick (scale.get l)).raiseAtTick (scale.get l) := by
  cases l <;> rfl

/-- The arbiter's own work at a gas tick: the tube's entry waits one second more and its lines are counted (R97). -/
theorem raiseDue_tick (g : Gas) (t : Tube) (scale : Flows) : (g.tick t scale).raiseDue t scale =
    { mapEntries g t (fun e => { e with age := satAt 65535 (e.age + 1) }) with
      lines := g.lines.set t (tickedLines (g.lines.get t) scale) } := by
  simp only [Gas.raiseDue, Gas.tick, PerTube.get_set_same, PerTube.set_set]
  rfl

theorem gasHeld_gasTickStart (t : Tube) (c : Ctx) : GasHeld c.s (gasTickStart t c).1.s := by
  unfold gasTickStart
  dsimp only
  split
  · exact .refl _
  · rw [raiseDue_tick]
    have haged := gasHeld_mapEntries (s := c.s) (t := t) (f := fun e => { e with age := satAt 65535 (e.age + 1) })
      (fun _ => rfl) fun _ => rfl
    refine haged.trans (gasHeld_setLines (s := c.s.setGas _) (fun l => ?_) (fun l => ?_)) <;> rw [tickedLines_get]
    · rw [(raiseAtTick_frame ..).1, (tick_frame ..).1]
      rfl
    · rw [(raiseAtTick_frame ..).2, (tick_frame ..).2]
      rfl

/-- A readback written: no flow changes (R87). -/
theorem supply_writeReadback (g : Gas) (t : Tube) (l : GasLine) (v : Nat) (u : Tube) :
    supply (g.writeReadback t l v) u = supply g u := by
  refine supply_setLines (fun k => ?_) u
  by_cases hk : k = l
  · subst hk; simp
  · rw [PerLine.get_set_other _ hk]

theorem gasKept_writeReadback (s : State) (t : Tube) (l : GasLine) (v : Nat) :
    GasKept s (s.setGas (s.gas.writeReadback t l v)) := gasKept_setGas rfl (supply_writeReadback s.gas t l v)

/-! ### The path to a target (R105, R109, R116) -/

theorem gasHeld_pathFromStable (leaving : AtmClass) (origin : WaitOrigin) (hstate : (c.s.atm.get t).state ≠ .ignite) :
    GasHeld c.s (pathFromStable t leaving origin c).1.s := by
  unfold pathFromStable
  dsimp only
  split
  · have horigin : GasHeld c.s (c.s.setAtm t { c.s.atm.get t with purgeOrigin := leaving }) :=
      gasHeld_setAtm rfl rfl rfl rfl rfl rfl
    exact horigin.trans (gasHeld_submitDry (c := c.put _) origin (by simpa using hstate) (fun _ => rfl)
      fun _ => flowsBounded_of_zero rfl)
  next hclass =>
    exact gasHeld_submitDry origin hstate (fun h => h.target_dry fun hsteam => hclass (by simp [hsteam]))
      fun h => ⟨h.target, by simp⟩

theorem gasHeld_continuation (hstate : (c.s.atm.get t).state ≠ .ignite) : GasHeld c.s (continuation t c).1.s := by
  unfold continuation
  dsimp only
  split
  · exact gasHeld_submitDry _ hstate (fun _ => rfl) fun _ => flowsBounded_of_zero rfl
  next hclass => exact gasHeld_submitDry _ hstate (fun h => h.target_dry hclass) fun h => ⟨h.target, by simp⟩

/-- The change that a marked PREFLOW submits again carries hydrogen to IGNITE alone (R110, R116). -/
theorem gasHeld_remark (cfg : TubeConfig) (hcfg : cfg = c.s.tubeConfig t) (hstate : (c.s.atm.get t).state ≠ .ignite) :
    GasHeld c.s (submitChange t ((c.s.atm.get t).remark cfg).1 ((c.s.atm.get t).remark cfg).2 .stable c).1.s := by
  subst hcfg
  unfold AtmRec.remark
  split
  · exact gasHeld_submitChange _ hstate (fun _ _ => .inl rfl) fun _ => ignitionFlows_bounded ..
  · exact gasHeld_submitDry _ hstate (fun _ => rfl) fun _ => flowsBounded_of_zero rfl

theorem gasHeld_taskRecompute (t : Tube) (w : Bool) (c : Ctx) : GasHeld c.s (taskRecompute t w c).1.s := by
  unfold taskRecompute
  dsimp only
  split
  case h_1 hstate | h_2 hstate => exact gasHeld_pathFromStable _ _ (by simp [hstate])
  case h_3 hstate =>
    have hout : (c.s.atm.get t).state ≠ .ignite := by simp [hstate]
    split
    · exact gasHeld_pathFromStable _ _ hout
    · split
      · exact gasHeld_submitDry _ hout (fun _ => rfl) fun _ => flowsBounded_of_zero rfl
      · exact .refl _
    · exact gasHeld_continuation hout
    · exact gasHeld_pathFromStable _ _ hout
  case h_4 hstate =>
    split
    · exact .refl _
    next hneed =>
      have hdry : (c.s.atm.get t).targetClass ≠ .steam := fun hsteam => hneed (by simp [purgeNeeded, hsteam])
      have hmark : GasHeld c.s (c.s.setAtm t { c.s.atm.get t with incomplete := false }) :=
        gasHeld_setAtm rfl rfl rfl rfl rfl rfl
      refine hmark.trans (gasHeld_submitDry (c := c.put _) _ (by simp [hstate]) (fun h => ?_) fun h => ?_)
      · simpa using h.target_dry (by simpa using hdry)
      · exact ⟨by simpa using h.target, by simp⟩
  case h_5 hstate =>
    have hout : (c.s.atm.get t).state ≠ .ignite := by simp [hstate]
    split
    · split
      · exact gasHeld_remark _ rfl hout
      · split
        · exact .refl _
        · exact gasHeld_submitDry _ hout (fun _ => rfl) fun _ => flowsBounded_of_zero rfl
    · exact gasHeld_extinguish [] (congrArg AtmState.torch hstate)
  case h_6 hstate =>
    split
    · exact .refl _
    · exact gasHeld_extinguish [] (congrArg AtmState.torch hstate)
  case h_7 hstate =>
    split
    · exact gasHeld_submitChange _ (by simp [hstate]) (fun _ _ => .inr rfl) fun h => ⟨h.target, by simp⟩
    · exact gasHeld_extinguish [] (congrArg AtmState.torch hstate)
  case h_8 => exact .refl _

theorem gasHeld_taskGasRequest (t : Tube) (f : PerLine (Option Nat)) (c : Ctx) :
    GasHeld c.s (taskGasRequest t f c).1.s :=
  gasHeld_setTarget rfl rfl rfl rfl (fun _ => rfl) fun _ => clampFlows_ratio ..

/-! ### Ticks and the torch (R107 to R115) -/

theorem gasHeld_taskAtmTick (t : Tube) (c : Ctx) : GasHeld c.s (taskAtmTick t c).1.s := by
  unfold taskAtmTick
  dsimp only
  split
  · exact .refl _
  · split
    case h_5 => exact .refl _
    all_goals exact gasHeld_setAtm rfl rfl rfl rfl rfl rfl

theorem gasHeld_taskPurgeComplete (t : Tube) (c : Ctx) : GasHeld c.s (taskPurgeComplete t c).1.s := by
  unfold taskPurgeComplete
  dsimp only
  split
  next hfull =>
    have hmark : GasHeld c.s (c.s.setAtm t { c.s.atm.get t with purged := true, incomplete := false }) :=
      gasHeld_setAtm rfl rfl rfl rfl rfl rfl
    exact hmark.trans (gasHeld_continuation (c := c.put _) (by simp [hfull.1]))
  next => exact .refl _

theorem gasHeld_taskPurgeIncomplete (t : Tube) (c : Ctx) : GasHeld c.s (taskPurgeIncomplete t c).1.s := by
  unfold taskPurgeIncomplete
  dsimp only
  split
  · exact gasHeld_setAtm rfl rfl rfl rfl rfl rfl
  · exact .refl _

theorem ignites_preflow (h : s.ignites t = true) : (s.atm.get t).state = .preflow := by
  simp only [State.ignites, Bool.and_eq_true, decide_eq_true_iff] at h
  obtain ⟨⟨⟨⟨hstate, -⟩, -⟩, -⟩, -⟩ := h
  exact hstate

theorem gasHeld_taskIgnitionTest (t : Tube) (c : Ctx) : GasHeld c.s (taskIgnitionTest t c).1.s := by
  unfold taskIgnitionTest
  split
  next hignites =>
    exact gasHeld_submitChange _ (by simp [ignites_preflow hignites]) (fun _ _ => .inl rfl)
      fun _ => ignitionFlows_bounded ..
  next => exact .refl _

theorem gasHeld_taskIgnitionFailed (t : Tube) (c : Ctx) : GasHeld c.s (taskIgnitionFailed t c).1.s := by
  unfold taskIgnitionFailed
  dsimp only
  split
  next hfailed =>
    have hfallback : GasHeld c.s (c.s.setAtm t { c.s.atm.get t with
        target := (c.s.tubeConfig t).purgeFlows, targetClass := .inert, fallback := true }) :=
      gasHeld_setTarget rfl rfl rfl rfl (fun _ => rfl) fun _ => Nat.zero_le _
    exact hfallback.trans (gasHeld_extinguish (c := c.put _) _ (by simp [hfailed.1, AtmState.torch]))
  next => exact .refl _

theorem gasHeld_taskPostFlowEnd (t : Tube) (c : Ctx) : GasHeld c.s (taskPostFlowEnd t c).1.s := by
  unfold taskPostFlowEnd
  dsimp only
  split
  next hend =>
    exact gasHeld_submitDry _ (by simp [hend.1]) (fun _ => rfl) fun _ => flowsBounded_of_zero rfl
  next => exact .refl _

theorem gasHeld_setFlame (s : State) (t : Tube) (high : Bool) : GasHeld s (s.setFlame t high) := by
  have hflame : GasHeld s (s.setAtm t { s.atm.get t with flame := high }) := gasHeld_setAtm rfl rfl rfl rfl rfl rfl
  exact hflame.trans (SameGas.held ⟨rfl, rfl, rfl⟩)

/-- The flame has lit: the hydrogen that IGNITE commands flows on in LIT (R111, R112). -/
theorem gasHeld_setLit (hstate : (s.atm.get t).state = .ignite) :
    GasHeld s (s.setAtm t { s.atm.get t with igniter := false, state := .lit }) := by
  refine gasHeld_setGas_setAtm (g := s.gas) (.refl t _) id (fun h => ?_) (fun _ h => ?_)
  · refine ⟨fun _ => .inr rfl, by simp, h.targetClass, h.inForce, ?_, h.waiting, fun _ => .inr (.inl rfl), h.carries,
      h.single⟩
    have hgrants := h.grants
    split at hgrants
    next hsafety =>
      obtain ⟨-, -, hsafe | hsafe⟩ := hgrants <;> simp [hstate] at hsafe
    next hsafety =>
      rw [if_neg hsafety]
      exact hgrants
  · exact ⟨h.ratio, by simp, h.target, h.change⟩

theorem gasHeld_flameRise (t : Tube) (c : Ctx) : GasHeld c.s (flameRise t c).1.s := by
  refine (gasHeld_setFlame c.s t true).trans ?_
  unfold flameRise
  dsimp only
  split
  next hstate =>
    exact (gasHeld_setLit hstate).trans (gasHeld_submitChange (c := Ctx.put _ _) _ (by simp) (fun _ _ => .inr rfl)
      fun h => ⟨by simpa using h.target, by simp⟩)
  next => exact .refl _

theorem gasHeld_flameFall (t : Tube) (c : Ctx) : GasHeld c.s (flameFall t c).1.s := by
  refine (gasHeld_setFlame c.s t false).trans ?_
  unfold flameFall
  dsimp only
  split
  next hstate => exact gasHeld_extinguish (c := c.put _) _ (congrArg AtmState.torch hstate)
  next => exact .refl _

/-! ### Operations that the gas supply does not notice -/

theorem sameGas_of_written (h : ZonesWritten s n) : SameGas s n := by
  refine ⟨?_, ?_, h.config⟩ <;> rw [h.rest]

theorem sameGas_setInhibit (s : State) (t : Tube) (cause : Inhibit) : SameGas s (s.setInhibit t cause) :=
  .trans (n := s.setThermal t _) ⟨rfl, rfl, rfl⟩ (sameGas_of_written (zonesOnly_cutDemands _ t).toZonesWritten)

theorem sameGas_setBank (s : State) (t : Tube) (b : Fin 8) : SameGas s (s.setBank t b) :=
  .trans (n := s.setRun t _) ⟨rfl, rfl, rfl⟩ (sameGas_of_written (zonesOnly_limitDemands _ t).toZonesWritten)

theorem sameGas_clearInhibit (s : State) (t : Tube) : SameGas s (s.clearInhibit t) := by
  unfold State.clearInhibit
  split <;> exact ⟨rfl, rfl, rfl⟩

theorem sameGas_changeState (c : Ctx) (t : Tube) (new : RunState) (cause : Cause) :
    SameGas c.s (c.changeState t new cause).s := ⟨rfl, rfl, rfl⟩

theorem sameGas_closeRun (c : Ctx) (t : Tube) (result : RunResult) : SameGas c.s (c.closeRun t result).s := by
  unfold Ctx.closeRun
  dsimp only
  split <;> exact ⟨rfl, rfl, rfl⟩

theorem sameGas_applyStep (s : State) (t : Tube) (st : Step) : SameGas s (s.applyStep t st) := by
  have hbank : ∀ s : State, SameGas s (match st.bank with | some b => s.setBank t b | none => s) := by
    intro s
    split
    · exact sameGas_setBank ..
    · exact .refl s
  have htargets : ∀ s : State, SameGas s (match st.targets with | some l => s.retarget t l | none => s) := by
    intro s
    split <;> exact ⟨rfl, rfl, rfl⟩
  unfold State.applyStep
  exact .trans (n := s.setRun t _) ⟨rfl, rfl, rfl⟩
    ((hbank _).trans (.trans (n := State.handOver _ t) ⟨rfl, rfl, rfl⟩ (htargets _)))

/-! ### Messages of the run controllers and of the fault block -/

theorem sameGas_taskEvaluate (t : Tube) (c : Ctx) : SameGas c.s (taskEvaluate t c).1.s := by
  unfold taskEvaluate
  dsimp only
  split <;> exact .refl _

theorem sameGas_taskStepEnd (t : Tube) (c : Ctx) : SameGas c.s (taskStepEnd t c).1.s := by
  unfold taskStepEnd
  dsimp only
  split
  · split <;> exact .refl _
  · exact .refl _

theorem sameGas_taskEnter (t : Tube) (l : ListSel) (i : Nat) (c : Ctx) : SameGas c.s (taskEnter t l i c).1.s := by
  unfold taskEnter
  dsimp only
  split
  · exact .trans (n := c.s.setRun t _) ⟨rfl, rfl, rfl⟩ (sameGas_applyStep ..)
  · exact ⟨rfl, rfl, rfl⟩

theorem sameGas_taskEntryFinish (t : Tube) (c : Ctx) : SameGas c.s (taskEntryFinish t c).1.s := by
  unfold taskEntryFinish
  dsimp only
  split <;> exact ⟨rfl, rfl, rfl⟩

theorem sameGas_taskRelease (t : Tube) (c : Ctx) : SameGas c.s (taskRelease t c).1.s := by
  unfold taskRelease
  split
  · exact .refl _
  · split <;> exact ⟨rfl, rfl, rfl⟩

theorem sameGas_taskIdle (t : Tube) (c : Ctx) : SameGas c.s (taskIdle t c).1.s := by
  unfold taskIdle
  dsimp only
  split
  · exact .trans (n := (c.s.setRun t _).handOver t) ⟨rfl, rfl, rfl⟩ (sameGas_setInhibit ..)
  · exact ⟨rfl, rfl, rfl⟩

theorem sameGas_taskAbortFinish (t : Tube) (k : Cause) (c : Ctx) : SameGas c.s (taskAbortFinish t k c).1.s := by
  unfold taskAbortFinish
  dsimp only
  split
  · split <;> exact ⟨rfl, rfl, rfl⟩
  · exact ⟨rfl, rfl, rfl⟩

theorem sameGas_taskAction (t : Tube) (a : Applied) (k : FaultKind) (c : Ctx) :
    SameGas c.s (taskAction t a k c).1.s := by
  unfold taskAction
  dsimp only
  split <;> exact ⟨rfl, rfl, rfl⟩

theorem sameGas_taskStepElapsed (t : Tube) (c : Ctx) : SameGas c.s (taskStepElapsed t c).1.s := by
  unfold taskStepElapsed
  dsimp only
  split <;> exact .refl _

theorem sameGas_taskStepTimeout (t : Tube) (c : Ctx) : SameGas c.s (taskStepTimeout t c).1.s := by
  unfold taskStepTimeout
  dsimp only
  split
  · split <;> exact ⟨rfl, rfl, rfl⟩
  · exact .refl _

theorem sameGas_handAction (t : Tube) (a : Applied) (k : FaultKind) (c : Ctx) :
    SameGas c.s (handAction t a k c).1.s := by
  unfold handAction
  split
  · split <;> exact ⟨rfl, rfl, rfl⟩
  · exact .refl _

theorem sameGas_taskDetect (d : Detection) (c : Ctx) : SameGas c.s (taskDetect d c).1.s := by
  unfold taskDetect
  dsimp only
  split
  · exact .refl _
  next ap _ =>
    refine .trans ?_ (sameGas_handAction ..)
    have hfault : ∀ f, SameGas c.s (if d.kind.inhibits ∧ ap = .safe then (c.s.setFaults f).setInhibit d.tube .fault
        else c.s.setFaults f) := by
      intro f
      split
      · exact .trans (n := c.s.setFaults f) ⟨rfl, rfl, rfl⟩ (sameGas_setInhibit ..)
      · exact ⟨rfl, rfl, rfl⟩
    split
    · exact hfault _
    · exact (hfault _).trans ⟨rfl, rfl, rfl⟩

theorem sameGas_taskShedDetect (m l : Nat) (c : Ctx) : SameGas c.s (taskShedDetect m l c).1.s := by
  unfold taskShedDetect
  dsimp only
  split <;> exact ⟨rfl, rfl, rfl⟩

theorem sameGas_taskShedActed (t : Tube) (a : Applied) (l : Nat) (rs : RunState) (q p : Nat) (c : Ctx) :
    SameGas c.s (taskShedActed t a l rs q p c).1.s := by
  unfold taskShedActed
  split
  · exact sameGas_handAction ..
  · exact .trans (n := (c.notice _).s) ⟨rfl, rfl, rfl⟩ (sameGas_handAction ..)

/-! ### Messages of the thermal blocks, the allocator and the boat blocks -/

theorem sameGas_taskRampStalled (t : Tube) (c : Ctx) : SameGas c.s (taskRampStalled t c).1.s := by
  unfold taskRampStalled
  dsimp only
  split <;> exact ⟨rfl, rfl, rfl⟩

theorem sameGas_taskTempReport (t : Tube) (met : Bool) (c : Ctx) : SameGas c.s (taskTempReport t met c).1.s := by
  unfold taskTempReport
  dsimp only
  split <;> exact ⟨rfl, rfl, rfl⟩

theorem sameGas_taskPowerStarved (t : Tube) (z : Zone) (c : Ctx) : SameGas c.s (taskPowerStarved t z c).1.s := by
  unfold taskPowerStarved
  dsimp only
  split <;> exact ⟨rfl, rfl, rfl⟩

theorem sameGas_taskMoveRequest (t : Tube) (x v : Nat) (c : Ctx) : SameGas c.s (taskMoveRequest t x v c).1.s := by
  unfold taskMoveRequest
  dsimp only
  split <;> exact ⟨rfl, rfl, rfl⟩

theorem sameGas_taskMoveStart (t : Tube) (c : Ctx) : SameGas c.s (taskMoveStart t c).1.s := by
  unfold taskMoveStart
  dsimp only
  split <;> exact ⟨rfl, rfl, rfl⟩

theorem sameGas_taskSettleTimeout (t : Tube) (c : Ctx) : SameGas c.s (taskSettleTimeout t c).1.s := by
  unfold taskSettleTimeout
  dsimp only
  split <;> exact ⟨rfl, rfl, rfl⟩

theorem sameGas_taskShutterTimeout (t : Tube) (c : Ctx) : SameGas c.s (taskShutterTimeout t c).1.s := by
  unfold taskShutterTimeout
  dsimp only
  split <;> exact ⟨rfl, rfl, rfl⟩

/-! ### Every message -/

/-- Whatever a message does, it keeps the header sums, the torches, the hydrogen bounds and the readbacks. -/
theorem handle_gasHeld (k : Task) (c : Ctx) : GasHeld c.s (handle k c).1.s := by
  cases k with
  | evaluate t => exact (sameGas_taskEvaluate t c).held
  | stepEnd t => exact (sameGas_taskStepEnd t c).held
  | enter t l i => exact (sameGas_taskEnter t l i c).held
  | entryFinish t => exact (sameGas_taskEntryFinish t c).held
  | release t => exact (sameGas_taskRelease t c).held
  | endRun t r k => exact ((sameGas_closeRun c t r).trans (sameGas_changeState ..)).held
  | idle t => exact (sameGas_taskIdle t c).held
  | abortFinish t k => exact (sameGas_taskAbortFinish t k c).held
  | safeFinish t k => exact ((sameGas_closeRun c t .stoppedSafe).trans (sameGas_changeState ..)).held
  | action t a k => exact (sameGas_taskAction t a k c).held
  | stepElapsed t => exact (sameGas_taskStepElapsed t c).held
  | stepTimeout t => exact (sameGas_taskStepTimeout t c).held
  | detect d => exact (sameGas_taskDetect d c).held
  | shedDetect m l => exact (sameGas_taskShedDetect m l c).held
  | shedActed t a l rs q p => exact (sameGas_taskShedActed t a l rs q p c).held
  | rampStalled t => exact (sameGas_taskRampStalled t c).held
  | tempReport t v => exact (sameGas_taskTempReport t v c).held
  | powerStarved t z => exact (sameGas_taskPowerStarved t z c).held
  | headerWait t => exact gasHeld_taskHeaderWait t c
  | flowDeviation t l => exact gasHeld_taskFlowDeviation t l c
  | examine => exact gasHeld_taskExamine c
  | gasRequest t f => exact gasHeld_taskGasRequest t f c
  | recompute t w => exact gasHeld_taskRecompute t w c
  | withdraw t => exact gasHeld_taskWithdraw t c
  | safeFlow t => exact gasHeld_taskSafeFlow t c
  | atmTick t => exact gasHeld_taskAtmTick t c
  | purgeComplete t => exact gasHeld_taskPurgeComplete t c
  | purgeIncomplete t => exact gasHeld_taskPurgeIncomplete t c
  | ignitionTest t => exact gasHeld_taskIgnitionTest t c
  | ignitionFailed t => exact gasHeld_taskIgnitionFailed t c
  | postFlowEnd t => exact gasHeld_taskPostFlowEnd t c
  | moveRequest t x v => exact (sameGas_taskMoveRequest t x v c).held
  | moveStart t => exact (sameGas_taskMoveStart t c).held
  | settleTimeout t => exact (sameGas_taskSettleTimeout t c).held
  | shutterTimeout t => exact (sameGas_taskShutterTimeout t c).held
  | commissionTube t =>
    have hbank := sameGas_setBank (c.s.seed t) t (c.s.tubeConfig t).defaultBank
    exact SameGas.held (.trans (n := c.s.seed t) ⟨rfl, rfl, rfl⟩ (hbank.trans ⟨rfl, rfl, rfl⟩))
  | entryGas | entryMove | enterHolding | leaveHolding | abort | enterSafe | bankDetect | judgeSamples | atmReport
  | boatStop | boatHold | boatRelease | boatReport => exact SameGas.held ⟨rfl, rfl, rfl⟩

/-- The chain of messages of an event keeps them. -/
theorem runTasks_gasHeld (n : Nat) (ks : List Task) (c : Ctx) : GasHeld c.s (runTasks n ks c).s :=
  runTasks_keeps (P := fun m => GasHeld c.s m.s) (fun k m h => h.trans (handle_gasHeld k m)) n ks c (.refl c.s)

/-! ### Messages before COMMISSION (R5, R86) -/

/-- No change waits, and every tube is OFFLINE and STABLE without hydrogen (R5, R86). -/
def dormant (s : State) : Prop :=
  s.gas.queue = [] ∧ ∀ t, s.runState t = .offline ∧ (s.atm.get t).state = .stable ∧ (s.gas.commands t).h2 = 0 ∧
    (s.atm.get t).target.h2 = 0

/-- A message that a dormant bank can give: it writes no record of the gas supply, or judges a condition that fails. -/
def still : Task → Bool
  | .evaluate _ | .stepElapsed _ | .stepTimeout _ | .detect _ | .bankDetect _ | .shedDetect .. | .judgeSamples ..
  | .rampStalled _ | .tempReport .. | .powerStarved .. | .headerWait _ | .flowDeviation .. | .examine | .atmTick _
  | .purgeComplete _ | .purgeIncomplete _ | .ignitionTest _ | .ignitionFailed _ | .postFlowEnd _ | .moveStart _
  | .boatReport _ | .settleTimeout _ | .shutterTimeout _ => true
  | _ => false

theorem calm_of_still {k : Task} (h : still k = true) : calm k = true := by
  cases k <;> simp_all [still, calm]

theorem dormant_offline (h : dormant s) : allOffline s := fun t => (h.2 t).1

theorem dormant_stable (h : dormant s) (t : Tube) : (s.atm.get t).state = .stable := by
  obtain ⟨-, hstable, -⟩ := h.2 t
  exact hstable

theorem dormant_entry? (h : dormant s) (t : Tube) : s.gas.entry? t = none := by
  simp [Gas.entry?, h.1]

/-- A dormant bank stays dormant where its gas supply stands and its tubes stay OFFLINE. -/
theorem dormant_of_same (h : dormant s) (hsame : SameGas s n) (hoff : allOffline n) : dormant n := by
  refine ⟨by rw [hsame.gas]; exact h.1, fun t => ⟨hoff t, ?_⟩⟩
  rw [hsame.gas, hsame.atm]
  exact (h.2 t).2

theorem taskStepTimeout_offline (hoff : allOffline c.s) : taskStepTimeout t c = (c, []) := by
  have hstate : (c.s.run.get t).state = .offline := hoff t
  unfold taskStepTimeout
  dsimp only
  split
  · simp [hstate, RunState.walks]
  · rfl

theorem taskShedDetect_offline (m l : Nat) (hoff : allOffline c.s) : taskShedDetect m l c = (c, []) := by
  have hgrade : ∀ t, c.s.gradeIn t .shedActive = none := fun t => by simp [State.gradeIn, Machine.grade, hoff t]
  simp [taskShedDetect, hgrade]

theorem taskHeaderWait_absent (h : c.s.gas.entry? t = none) : taskHeaderWait t c = (c, []) := by
  simp [taskHeaderWait, h]

theorem taskExamine_empty (h : c.s.gas.queue = []) : taskExamine c = (c, []) := by
  simp [taskExamine, Gas.admitHead, h]

theorem taskIgnitionTest_stands (h : c.s.ignites t = false) : taskIgnitionTest t c = (c, []) := by
  simp [taskIgnitionTest, h]

theorem ignites_of_state (h : (s.atm.get t).state ≠ .preflow) : s.ignites t = false :=
  Bool.eq_false_iff.2 fun hignites => h (ignites_preflow hignites)

/-- A dormant bank stays dormant at every message that it can give, which gives such messages alone. -/
theorem handle_dormant {k : Task} (hk : still k = true) (h : dormant c.s) :
    dormant (handle k c).1.s ∧ ∀ j ∈ (handle k c).2, still j = true := by
  have hoff := dormant_offline h
  have hstands : ∀ r : Ctx × List Task, r = (c, []) → dormant r.1.s ∧ ∀ j ∈ r.2, still j = true := by
    rintro _ rfl
    exact ⟨h, by simp⟩
  have hsame : SameGas c.s (handle k c).1.s → (∀ j ∈ (handle k c).2, still j = true) → _ := fun hs hj =>
    And.intro (dormant_of_same h hs (handle_offline (calm_of_still hk) hoff).1) hj
  cases k with
  | evaluate t => exact hstands _ (taskEvaluate_offline hoff)
  | stepElapsed t => exact hstands _ (taskStepElapsed_offline hoff)
  | stepTimeout t => exact hstands _ (taskStepTimeout_offline hoff)
  | detect d => exact hstands _ (taskDetect_offline hoff)
  | shedDetect m l => exact hstands _ (taskShedDetect_offline m l hoff)
  | headerWait t => exact hstands _ (taskHeaderWait_absent (dormant_entry? h t))
  | flowDeviation t l => exact hstands (taskFlowDeviation t l c) (by simp [taskFlowDeviation, hoff t])
  | examine => exact hstands _ (taskExamine_empty h.1)
  | atmTick t => exact hstands (taskAtmTick t c) (by simp [taskAtmTick, hoff t])
  | purgeComplete t => exact hstands (taskPurgeComplete t c) (by simp [taskPurgeComplete, dormant_stable h t])
  | purgeIncomplete t => exact hstands (taskPurgeIncomplete t c) (by simp [taskPurgeIncomplete, dormant_stable h t])
  | ignitionTest t =>
    exact hstands _ (taskIgnitionTest_stands (ignites_of_state (by simp [dormant_stable h t])))
  | ignitionFailed t => exact hstands (taskIgnitionFailed t c) (by simp [taskIgnitionFailed, dormant_stable h t])
  | postFlowEnd t => exact hstands (taskPostFlowEnd t c) (by simp [taskPostFlowEnd, dormant_stable h t])
  | bankDetect l => exact hsame ⟨rfl, rfl, rfl⟩ (by simp [handle, taskBankDetect, still])
  | judgeSamples t z =>
    refine hsame ⟨rfl, rfl, rfl⟩ fun j hj => ?_
    simp only [handle, taskJudgeSamples, zoneDetection, List.mem_append] at hj
    obtain (hj | hj) | hj := hj <;> split at hj <;> simp_all [still]
  | rampStalled t =>
    refine hsame (sameGas_taskRampStalled t c) ?_
    simp only [handle, taskRampStalled]
    split <;> simp [still]
  | tempReport t v =>
    refine hsame (sameGas_taskTempReport t v c) ?_
    simp only [handle, taskTempReport]
    split
    · simp
    · dsimp only
      split <;> simp [still]
  | powerStarved t z =>
    refine hsame (sameGas_taskPowerStarved t z c) ?_
    simp only [handle, taskPowerStarved]
    split <;> simp [still]
  | moveStart t =>
    refine hsame (sameGas_taskMoveStart t c) ?_
    simp only [handle, taskMoveStart]
    split
    · unfold putBoat
      dsimp only
      split <;> simp [still]
    · simp
  | boatReport t =>
    refine hsame ⟨rfl, rfl, rfl⟩ ?_
    simp only [handle, taskBoatReport]
    split <;> simp [still]
  | settleTimeout t =>
    refine hsame (sameGas_taskSettleTimeout t c) ?_
    simp only [handle, taskSettleTimeout]
    split <;> simp [still, stallBoat]
  | shutterTimeout t =>
    refine hsame (sameGas_taskShutterTimeout t c) ?_
    simp only [handle, taskShutterTimeout]
    split <;> simp [still]
  | stepEnd | enter | entryGas | entryMove | entryFinish | release | endRun | idle | enterHolding | leaveHolding
  | abort | abortFinish | enterSafe | safeFinish | action | shedActed | gasRequest | recompute | withdraw | safeFlow
  | atmReport | moveRequest | boatStop | boatHold | boatRelease | commissionTube => exact absurd hk Bool.false_ne_true

theorem runTasks_dormant {ks : List Task} (hks : ∀ k ∈ ks, still k = true) (h : dormant c.s) (n : Nat) :
    dormant (runTasks n ks c).s := by
  obtain ⟨_, hrest, -⟩ := runTasks_keeps_with (P := fun c ks => dormant c.s ∧ ∀ k ∈ ks, still k = true)
    (fun k ks c ⟨h, hstill⟩ => by
      obtain ⟨hk, hks⟩ := List.forall_mem_cons.1 hstill
      obtain ⟨hnext, hnew⟩ := handle_dormant hk h
      exact ⟨hnext, fun j hj => (List.mem_append.1 hj).elim (hnew j) (hks j)⟩) n ks c ⟨h, hks⟩
  exact hrest

end

end Sys2Proof.GasEvents

/-! SUPPORT. What a command does to the gas supply: the event of the plant or of a request, each request of the host, the taking
of requests from the line, and so every step keeps the header sums, the torches and the hydrogen bounds, or is a reset (R86 to
R91, R103, R172, R177). -/

namespace Sys2Proof.GasSteps

open Sys2Proof.Machine Sys2Proof.ZoneRules Sys2Proof.ZoneInvariants Sys2Proof.ZoneEvents Sys2Proof.ZoneWork
  Sys2Proof.ZoneSteps Sys2Proof.PowerAllocation Sys2Proof.GasRules Sys2Proof.GasInvariants Sys2Proof.GasEvents

/-! ### What a command keeps -/

/-- `n` keeps the torches that `s` has, its header sums once the bank is commissioned, and its hydrogen bounds. -/
structure Sustains (s n : State) : Prop where
  locked : s.config.locked = true → n.config.locked = true
  headers : s.config.locked = true → s.headersKept → n.headersKept
  torch : ∀ t, torchOf s t → torchOf n t
  ratios : s.torchesSound → s.ratiosKept → n.ratiosKept

section

variable {s n m : State} {c : Ctx} {t : Tube}

theorem Sustains.refl (s : State) : Sustains s s := ⟨id, fun _ => id, fun _ => id, fun _ => id⟩

theorem Sustains.torches (h : Sustains s n) (hs : s.torchesSound) : n.torchesSound :=
  (torchesSound_iff n).2 fun t => h.torch t ((torchesSound_iff s).1 hs t)

theorem Sustains.trans (h : Sustains s n) (k : Sustains n m) : Sustains s m where
  locked := k.locked ∘ h.locked
  headers hl := k.headers (h.locked hl) ∘ h.headers hl
  torch t := k.torch t ∘ h.torch t
  ratios ht := k.ratios (h.torches ht) ∘ h.ratios ht

/-- The hydrogen bounds, tube by tube, and the quiet before COMMISSION. -/
theorem ratiosKept_iff (s : State) : s.ratiosKept ↔ (∀ t, boundedOf s t) ∧ (s.config.locked = false → dormant s) := by
  simp only [State.ratiosKept, hydrogenBounded_iff]
  rfl

/-- What keeps the gas supply under one configuration, and the quiet before COMMISSION. -/
theorem GasKept.sustains (h : GasKept s n) (hquiet : s.config.locked = false → dormant s → dormant n) :
    Sustains s n where
  locked hl := by rw [h.config]; exact hl
  headers _ := h.headers
  torch := h.torch
  ratios ht hs := by
    obtain ⟨hbounded, hdormant⟩ := (ratiosKept_iff s).1 hs
    refine (ratiosKept_iff n).2 ⟨fun t => h.bounded t ((torchesSound_iff s).1 ht t) (hbounded t), fun hl => ?_⟩
    rw [h.config] at hl
    exact hquiet hl (hdormant hl)

/-- An operation that neither the gas supply nor the run states notice. -/
theorem SameGas.sustains (h : SameGas s n) (hrun : ∀ t, n.runState t = s.runState t) : Sustains s n :=
  GasKept.sustains h.kept fun _ hs => dormant_of_same hs h fun t => (hrun t).trans (dormant_offline hs t)

/-- An operation that neither the gas supply nor the zones notice. -/
theorem SameGas.sustains_of_heat (h : SameGas s n) (hheat : SameHeat s n) : Sustains s n :=
  SameGas.sustains h fun t => (hheat.run t).1

/-- The beginning of an event: it keeps the gas supply, and leaves a dormant bank dormant before COMMISSION. -/
structure Starts (s : State) (r : Ctx × List Task) : Prop where
  kept : GasKept s r.1.s
  quiet : s.config.locked = false → dormant s → dormant r.1.s ∧ ∀ k ∈ r.2, still k = true

/-- An event that only a tube out of OFFLINE begins. -/
theorem Starts.of_online {r : Ctx × List Task} (h : GasKept s r.1.s) (ht : s.runState t ≠ .offline) : Starts s r :=
  ⟨h, fun _ hs => absurd (dormant_offline hs t) ht⟩

/-- An event that an operation on other records begins, with messages that a dormant bank can give. -/
theorem Starts.of_same {r : Ctx × List Task} (h : SameGas s r.1.s) (hrun : ∀ t, r.1.s.runState t = s.runState t)
    (htasks : ∀ k ∈ r.2, still k = true) : Starts s r :=
  ⟨h.kept, fun _ hs => ⟨dormant_of_same hs h fun t => (hrun t).trans (dormant_offline hs t), htasks⟩⟩

/-- An event begun after an operation that neither the gas supply nor the run states notice. -/
theorem Starts.after {r : Ctx × List Task} (h : Starts c.s r) (hsame : SameGas s c.s)
    (hrun : ∀ t, c.s.runState t = s.runState t) : Starts s r where
  kept := hsame.kept.trans h.kept
  quiet hl hs := h.quiet (by rw [hsame.config]; exact hl)
    (dormant_of_same hs hsame fun t => (hrun t).trans (dormant_offline hs t))

theorem Starts.ite {p : Prop} [Decidable p] {a b : Ctx × List Task} (ha : Starts s a) (hb : Starts s b) :
    Starts s (if p then a else b) := by
  split
  · exact ha
  · exact hb

/-- A whole event keeps what its beginning keeps. -/
theorem sustains_chain {r : Ctx × List Task} (h : Starts s r) (n : Nat) : Sustains s (runTasks n r.2 r.1).s :=
  GasKept.sustains (h.kept.trans (runTasks_gasHeld n r.2 r.1).toGasKept) fun hl hs =>
    runTasks_dormant (h.quiet hl hs).2 (h.quiet hl hs).1 n

theorem sustains_event {first : Ctx → Ctx × List Task} (h : Starts s (first (Ctx.start s false))) :
    Sustains s (s.event first) := sustains_chain h _

theorem sustains_serving {first : Ctx → Ctx × List Task} (h : Starts s (first (Ctx.start s true))) :
    Sustains s (s.serving first) := sustains_chain h _

/-- An event that begins with messages alone. -/
theorem sustains_eventOf {ks : List Task} (h : ∀ k ∈ ks, still k = true) : Sustains s (s.eventOf ks) :=
  sustains_event (.of_same (.refl s) (fun _ => rfl) h)

/-! ### The beginnings of the plant's events -/

theorem starts_stepTimerTick (t : Tube) (c : Ctx) : Starts c.s (stepTimerTick t c) := by
  unfold stepTimerTick
  dsimp only
  refine .ite (.of_same ⟨rfl, rfl, rfl⟩ (fun u => ?_) (by simp [still])) (.of_same (.refl _) (fun _ => rfl) (by simp))
  by_cases hu : u = t
  · subst hu; simp [State.runState]
  · simp [State.runState, PerTube.get_set_other _ hu]

theorem sameGas_thermalTickStart (t : Tube) (c : Ctx) : SameGas c.s (thermalTickStart t c).1.s := by
  by_cases hoff : (c.s.thermal.get t).runState = .offline
  · rw [thermalTickStart_offline hoff]
    exact .refl _
  · rw [thermalTickStart_s hoff]
    have hzones := sameGas_of_written (zonesOnly_controlZones (advanceAll c.s t) t).toZonesWritten
    exact .trans (n := advanceAll c.s t) ⟨rfl, rfl, rfl⟩ (hzones.trans ⟨rfl, rfl, rfl⟩)

theorem still_thermalTickStart (t : Tube) (c : Ctx) : ∀ k ∈ (thermalTickStart t c).2, still k = true := by
  intro k hk
  unfold thermalTickStart at hk
  dsimp only at hk
  split at hk
  · simp at hk
  · simp only [List.mem_append, List.mem_singleton, List.mem_flatMap, deviationReport, zoneDetection] at hk
    obtain (rfl | ⟨z, -, hk⟩) | rfl := hk
    · rfl
    · split at hk
      · rw [List.mem_singleton.1 hk]
        rfl
      · simp at hk
    · rfl

theorem starts_thermalTickStart (t : Tube) (c : Ctx) : Starts c.s (thermalTickStart t c) where
  kept := (sameGas_thermalTickStart t c).kept
  quiet hl hs := by
    obtain ⟨hoff, -⟩ := (begins_thermalTickStart t c).offline hl (dormant_offline hs)
    exact ⟨dormant_of_same hs (sameGas_thermalTickStart t c) hoff, still_thermalTickStart t c⟩

theorem starts_gasTickStart (t : Tube) (c : Ctx) : Starts c.s (gasTickStart t c) where
  kept := (gasHeld_gasTickStart t c).toGasKept
  quiet _ hs := by
    have hstands : gasTickStart t c = (c, []) := by simp [gasTickStart, dormant_offline hs t]
    rw [hstands]
    exact ⟨hs, by simp⟩

theorem starts_shedEdge (rising : Bool) (c : Ctx) : Starts c.s (shedEdge rising c) where
  kept := by
    unfold shedEdge shedOnset
    dsimp only
    split <;> exact SameGas.kept ⟨rfl, rfl, rfl⟩
  quiet hl hs := by
    have hstands : shedEdge rising c = (shedEdged rising c, []) := shedOnset_absent (c := shedEdged rising c) (.inl hl)
    rw [hstands]
    exact ⟨dormant_of_same hs ⟨rfl, rfl, rfl⟩ (dormant_offline hs), by simp⟩

theorem starts_bankLineEdge (l : BankLine) (rising : Bool) (c : Ctx) : Starts c.s (bankLineEdge l rising c) where
  kept := SameGas.kept ⟨rfl, rfl, rfl⟩
  quiet hl hs := ⟨dormant_of_same hs ⟨rfl, rfl, rfl⟩ (dormant_offline hs), by simp [bankLineEdge, hl]⟩

theorem starts_putBoat (t : Tube) (b : BoatRec) (c : Ctx) : Starts c.s (putBoat t b c) := by
  refine .of_same ⟨rfl, rfl, rfl⟩ (fun _ => rfl) ?_
  unfold putBoat
  dsimp only
  split <;> simp [still]

theorem starts_stallBoat (t : Tube) (b : BoatRec) (l : Nat) (c : Ctx) : Starts c.s (stallBoat t b l c) :=
  .of_same ⟨rfl, rfl, rfl⟩ (fun _ => rfl) (by simp [stallBoat, still])

/-- A flow readback: no flow changes, and the boat block is told of nitrogen (R87). -/
theorem starts_flowReadback (t : Tube) (l : GasLine) (v : Nat) (c : Ctx) :
    Starts c.s (flowReadback t l (c.s.gas.writeReadback t l v) c) := by
  have hkept := gasKept_writeReadback c.s t l v
  have hdormant : dormant c.s → dormant (c.s.setGas (c.s.gas.writeReadback t l v)) := fun hs => by
    refine ⟨hs.1, fun u => ?_⟩
    have hsupply := congrArg Supply.commands (supply_writeReadback c.s.gas t l v u)
    rw [supply_commands, supply_commands] at hsupply
    rw [State.setGas_gas, hsupply]
    exact hs.2 u
  have hboat : Starts (c.s.setGas (c.s.gas.writeReadback t l v))
      (flowReadback t l (c.s.gas.writeReadback t l v) c) := by
    unfold flowReadback
    dsimp only
    exact .ite (starts_putBoat t _ (c.put _)) (.of_same (.refl _) (fun _ => rfl) (by simp))
  exact ⟨hkept.trans hboat.kept, fun hl hs => hboat.quiet hl (hdormant hs)⟩

theorem dormant_setFlame (h : dormant s) (t : Tube) (high : Bool) : dormant (s.setFlame t high) := by
  refine ⟨h.1, fun u => ?_⟩
  by_cases hu : u = t
  · subst hu
    simpa [State.setFlame, State.runState] using h.2 u
  · simpa [State.setFlame, State.runState, PerTube.get_set_other _ hu] using h.2 u

theorem starts_flameRise (t : Tube) (c : Ctx) : Starts c.s (flameRise t c) where
  kept := (gasHeld_flameRise t c).toGasKept
  quiet _ hs := by
    have hstate := dormant_stable (dormant_setFlame hs t true) t
    have hstands : flameRise t c = (c.put (c.s.setFlame t true), []) := by simp [flameRise, hstate]
    rw [hstands]
    exact ⟨dormant_setFlame hs t true, by simp⟩

theorem starts_flameFall (t : Tube) (c : Ctx) : Starts c.s (flameFall t c) where
  kept := (gasHeld_flameFall t c).toGasKept
  quiet _ hs := by
    have hstate := dormant_stable (dormant_setFlame hs t false) t
    have htests : flameFall t c = (c.put (c.s.setFlame t false), [.ignitionTest t]) := by simp [flameFall, hstate]
    rw [htests]
    exact ⟨dormant_setFlame hs t false, by simp [still]⟩

theorem starts_positionArrival (t : Tube) (v : Nat) (c : Ctx) : Starts c.s (positionArrival t v c) := by
  unfold positionArrival
  dsimp only
  split
  · split <;> exact starts_putBoat ..
  · split
    case h_2 => exact .ite (starts_stallBoat ..) (starts_putBoat ..)
    all_goals exact starts_putBoat ..

theorem starts_motionTick (t : Tube) (c : Ctx) : Starts c.s (motionTick t c) := by
  unfold motionTick
  dsimp only
  split
  · exact .ite (starts_stallBoat ..) (starts_putBoat ..)
  · obtain ⟨hkept, hquiet⟩ := starts_putBoat t (c.s.boat.get t).countPhase.judgeSettle c
    refine ⟨hkept, fun hl hs => ?_⟩
    obtain ⟨hdormant, hstill⟩ := hquiet hl hs
    refine ⟨hdormant, fun k hk => ?_⟩
    obtain hk | hk := List.mem_append.1 hk
    · exact hstill k hk
    · rw [List.mem_singleton.1 hk]
      rfl
  · exact .of_same ⟨rfl, rfl, rfl⟩ (fun _ => rfl) (by simp [still])
  · exact .of_same ⟨rfl, rfl, rfl⟩ (fun _ => rfl) (by simp [still])
  · exact .of_same (.refl _) (fun _ => rfl) (by simp)

theorem starts_openLimitEdge (t : Tube) (rising : Bool) (c : Ctx) : Starts c.s (openLimitEdge t rising c) := by
  unfold openLimitEdge
  dsimp only
  exact .after (c := c.put _) (.ite (.ite (starts_putBoat ..) (starts_putBoat ..)) (starts_putBoat ..)) ⟨rfl, rfl, rfl⟩
    fun _ => rfl

theorem starts_closedLimitEdge (t : Tube) (rising : Bool) (c : Ctx) : Starts c.s (closedLimitEdge t rising c) := by
  unfold closedLimitEdge
  dsimp only
  exact .after (c := c.put _) (.ite (.ite (starts_putBoat ..) (starts_putBoat ..)) (starts_putBoat ..)) ⟨rfl, rfl, rfl⟩
    fun _ => rfl

/-! ### Requests that the gas supply does not notice -/

theorem sameGas_setNotices (s : State) (a b c d : Byte) : SameGas s (s.setNotices a b c d).1 := by
  unfold State.setNotices
  split <;> exact ⟨rfl, rfl, rfl⟩

theorem sameGas_restartRequest (s : State) : SameGas s s.restartRequest.1 := by
  unfold State.restartRequest
  split <;> exact ⟨rfl, rfl, rfl⟩

theorem sameGas_recipeOpen (s : State) (x : Byte) (name : List Byte) (o r z m k : Byte) :
    SameGas s (s.recipeOpen x name o r z m k).1 := by
  unfold State.recipeOpen
  dsimp only
  repeat' split
  all_goals exact ⟨rfl, rfl, rfl⟩

theorem sameGas_recipeStep (s : State) (l i : Byte) (r : RawStep) : SameGas s (s.recipeStep l i r).1 := by
  unfold State.recipeStep
  dsimp only
  repeat' split
  all_goals exact ⟨rfl, rfl, rfl⟩

theorem sameGas_recipeClose (s : State) : SameGas s s.recipeClose.1 := by
  unfold State.recipeClose
  repeat' split
  all_goals exact ⟨rfl, rfl, rfl⟩

theorem sameGas_recipeCancel (s : State) : SameGas s s.recipeCancel.1 := by
  unfold State.recipeCancel
  split <;> exact ⟨rfl, rfl, rfl⟩

theorem sameGas_recipeDrop (s : State) (x : Byte) : SameGas s (s.recipeDrop x).1 := by
  unfold State.recipeDrop
  repeat' split
  all_goals exact ⟨rfl, rfl, rfl⟩

theorem sameGas_setStore (s : State) (st : Store) : SameGas s (s.setStore st) := ⟨rfl, rfl, rfl⟩

theorem sameGas_setBudget (s : State) (b : Half) : SameGas s (s.setBudget b).1 := by
  unfold State.setBudget
  split <;> exact ⟨rfl, rfl, rfl⟩

theorem sameGas_setSpeedTable (s : State) (x : Byte) (es : List (Half × Half)) :
    SameGas s (s.setSpeedTable x es).1 := by
  unfold State.setSpeedTable
  split <;> exact ⟨rfl, rfl, rfl⟩

theorem sameGas_setFaultPolicy (s : State) (k e l a : Byte) : SameGas s (s.setFaultPolicy k e l a).1 := by
  unfold State.setFaultPolicy
  repeat' split
  all_goals exact ⟨rfl, rfl, rfl⟩

theorem sameGas_clearFaults (s : State) (x : Byte) (ks : List Byte) : SameGas s (s.clearFaults x ks).1 := by
  unfold State.clearFaults
  split <;> exact ⟨rfl, rfl, rfl⟩

/-- A bank written, and the demands of its users limited to it (R68). -/
theorem sustains_loadTuning (s : State) (x : Byte) (e1 e2 e3 e4 e5 : TuningFields) :
    Sustains s (s.loadTuning x e1 e2 e3 e4 e5).1 := by
  have hloaded : ∀ b entries, Sustains s (bankLoaded s b entries) := fun b entries => by
    have hwritten := bankLoaded_written s b entries
    have hsame : SameGas s (bankLoaded s b entries) :=
      .trans (n := { s with banks := s.banks.set b.val entries b.isLt }) ⟨rfl, rfl, rfl⟩ (sameGas_of_written hwritten)
    exact SameGas.sustains hsame fun t => hwritten.runState t
  unfold State.loadTuning
  split
  · exact .refl s
  · exact .refl s
  · exact hloaded ..

/-! ### Requests of the run controllers (R8, R19 to R26) and BOAT_JOG (R136) -/

/-- A request that an OFFLINE tube refuses. -/
theorem sustains_tubeRequest {x : Byte} {check : Tube → Option Reason} {first : Tube → Ctx → Ctx × List Task}
    (hcheck : ∀ t, s.runState t = .offline → check t ≠ none) (hkept : ∀ t, GasKept s (first t (Ctx.start s true)).1.s) :
    Sustains s (s.tubeRequest x check first).1 := by
  unfold State.tubeRequest
  split
  · exact .refl s
  next t _ =>
    split
    · exact .refl s
    next hnone => exact sustains_serving (.of_online (hkept t) fun hoff => hcheck t hoff hnone)

theorem sustains_holdRequest (s : State) (x : Byte) : Sustains s (s.holdRequest x).1 :=
  sustains_tubeRequest (fun t hoff => by simp [unlessState, hoff]) fun _ => SameGas.kept ⟨rfl, rfl, rfl⟩

theorem sustains_resumeRequest (s : State) (x : Byte) : Sustains s (s.resumeRequest x).1 :=
  sustains_tubeRequest (fun t hoff => by simp [hoff]) fun _ => .refl s

theorem sustains_skipRequest (s : State) (x : Byte) : Sustains s (s.skipRequest x).1 :=
  sustains_tubeRequest (fun t hoff => by simp [unlessState, hoff]) fun _ => .refl s

theorem sustains_abortRequest (s : State) (x : Byte) : Sustains s (s.abortRequest x).1 :=
  sustains_tubeRequest (fun t hoff => by simp [unlessState, hoff]) fun _ => .refl s

theorem sustains_safeStopRequest (s : State) (x : Byte) : Sustains s (s.safeStopRequest x).1 :=
  sustains_tubeRequest (fun t hoff => by simp [unlessState, hoff]) fun _ => .refl s

theorem gasHeld_leaveSafe (s : State) (t : Tube) : GasHeld s (s.leaveSafe t) := gasHeld_setAtm rfl rfl rfl rfl rfl rfl

theorem gasHeld_recoverStart (t : Tube) (c : Ctx) : GasHeld c.s (recoverStart t c).1.s := by
  have hclear := (sameGas_clearInhibit c.s t).held
  have hleave := gasHeld_leaveSafe ((c.s.clearInhibit t).setBoat t ((c.s.clearInhibit t).boat.get t).release) t
  exact hclear.trans (.trans (n := (c.s.clearInhibit t).setBoat t _) (SameGas.held ⟨rfl, rfl, rfl⟩)
    (hleave.trans (SameGas.held ⟨rfl, rfl, rfl⟩)))

theorem sustains_recoverRequest (s : State) (x : Byte) : Sustains s (s.recoverRequest x).1 :=
  sustains_tubeRequest (fun t hoff => by simp [hoff]) fun t => (gasHeld_recoverStart t (Ctx.start s true)).toGasKept

theorem sameGas_startRun (s : State) (t : Tube) (i : Fin 16) : SameGas s (s.startRun t i) := by
  have hinhibit : ∀ n : State, SameGas n (if (n.thermal.get t).inhibit = .idle then n.clearInhibit t else n) := by
    intro n
    split
    · exact sameGas_clearInhibit ..
    · exact .refl n
  have hrecord : SameGas s ((s.setStore (s.store.borrow i)).setRun t { s.run.get t with
      recipe := some i, list := .main, holdHost := false, holdFault := false, mask := 0,
      params := (s.tubeConfig t).idleParams }) := ⟨rfl, rfl, rfl⟩
  have hover : ∀ n : State, SameGas n (n.handOver t) := fun _ => ⟨rfl, rfl, rfl⟩
  unfold State.startRun
  dsimp only
  refine .trans (.trans (hrecord.trans ((hover _).trans
    (sameGas_setBank _ t (s.tubeConfig t).defaultBank))) (hinhibit _)) ?_
  exact ⟨rfl, rfl, rfl⟩

theorem sameGas_runStart (t : Tube) (i : Fin 16) (c : Ctx) : SameGas c.s (runStart t i c).1.s :=
  (sameGas_startRun c.s t i).trans ⟨rfl, rfl, rfl⟩

theorem sustains_runRequest (s : State) (x i : Byte) : Sustains s (s.runRequest x i).1 := by
  unfold State.runRequest
  split
  · exact .refl s
  · exact .refl s
  next t j _ _ =>
    split
    · exact .refl s
    next hcheck =>
      refine sustains_serving (.of_online (t := t) (sameGas_runStart t j (Ctx.start s true)).kept fun hoff => ?_)
      simp [State.runCheck, hoff] at hcheck

theorem sustains_boatJog (s : State) (x : Byte) (p v : Half) : Sustains s (s.boatJog x p v).1 := by
  unfold State.boatJog
  split
  · exact .refl s
  · exact .refl s
  next t _ _ =>
    split
    · exact .refl s
    next hidle =>
      split
      · exact .refl s
      · split
        · exact .refl s
        · exact sustains_serving (first := fun c => (c, [.moveRequest t p.toNat v.toNat]))
            (.of_online (t := t) (.refl s) fun hoff => hidle (by simp [hoff]))

/-! ### Configuration (R172 to R175) -/

/-- A dormant bank keeps every bound, whatever its configuration. -/
theorem boundedOf_dormant (h : dormant s) (t : Tube) : boundedOf s t := by
  obtain ⟨hqueue, htubes⟩ := h
  obtain ⟨-, hstate, hdry, htarget⟩ := htubes t
  refine ⟨by simp [hdry], by simp [hstate], by simp [htarget], by simp [entries, hqueue]⟩

/-- Before COMMISSION a configuration record may change. -/
theorem sustains_reconfigure (hlocked : s.config.locked = false) (hgas : n.gas = s.gas) (hatm : n.atm = s.atm)
    (hrun : n.run = s.run) : Sustains s n where
  locked h := by simp [hlocked] at h
  headers h := by simp [hlocked] at h
  torch t h := by
    unfold torchOf
    rw [hgas, hatm]
    exact h
  ratios _ hs := by
    obtain ⟨-, hquiet⟩ := (ratiosKept_iff s).1 hs
    have hdormant : dormant n := by
      unfold dormant State.runState
      rw [hgas, hatm, hrun]
      exact hquiet hlocked
    exact (ratiosKept_iff n).2 ⟨boundedOf_dormant hdormant, fun _ => hdormant⟩

theorem sustains_configureTube (s : State) (x f z : Byte) (fs : TubeFields) :
    Sustains s (s.configureTube x f z fs).1 := by
  unfold State.configureTube
  dsimp only
  split
  · exact .refl s
  next hlocked =>
    have hlocked : s.config.locked = false := by simpa using hlocked
    have hwritten : ∀ t cfg, Sustains s (s.writeTubeConfig t cfg) := fun t cfg =>
      sustains_reconfigure hlocked rfl rfl rfl
    split
    · exact .refl s
    · exact .refl s
    · exact hwritten ..
    · split
      · exact .refl s
      · exact hwritten ..

theorem sustains_configureBank (s : State) (a b c d : Byte) (x w : Half) :
    Sustains s (s.configureBank a b c d x w).1 := by
  unfold State.configureBank
  split
  · exact .refl s
  next hlocked =>
    have hlocked : s.config.locked = false := by simpa using hlocked
    split
    · exact .refl s
    · exact sustains_reconfigure hlocked rfl rfl rfl

theorem sustains_lockedState (s : State) : Sustains s (lockedState s) where
  locked _ := rfl
  headers _ := id
  torch _ := id
  ratios _ hs := by
    obtain ⟨hbounded, -⟩ := (ratiosKept_iff s).1 hs
    exact (ratiosKept_iff _).2 ⟨hbounded, fun h => by simp [lockedState] at h⟩

theorem starts_commissionStart (s : State) : Starts (lockedState s) (commissionStart (Ctx.start s true)) where
  kept := by
    unfold commissionStart shedOnset
    dsimp only
    split <;> exact SameGas.kept ⟨rfl, rfl, rfl⟩
  quiet h := by simp [lockedState] at h

theorem sustains_commission (s : State) : Sustains s s.commission.1 := by
  have hcommission := (sustains_lockedState s).trans (sustains_chain (starts_commissionStart s) Config.cascadeBound)
  unfold State.commission
  split
  · exact .refl s
  · split
    · exact .refl s
    · split
      · exact .refl s
      · exact hcommission

/-! ### Every request, and the line it comes by -/

/-- Whatever request is served, the gas supply is sustained (R160). -/
theorem sustains_serve (s : State) (r : Request) : Sustains s (s.serve r).1 := by
  cases r with
  | setNotices a b c d => exact SameGas.sustains_of_heat (sameGas_setNotices ..) (sameHeat_setNotices ..)
  | configureTube t f z fs => exact sustains_configureTube ..
  | configureBank a b c d x w => exact sustains_configureBank ..
  | commission => exact sustains_commission s
  | setClock o => exact SameGas.sustains ⟨rfl, rfl, rfl⟩ fun _ => rfl
  | restart => exact SameGas.sustains_of_heat (sameGas_restartRequest s) (sameHeat_restartRequest s)
  | run t i => exact sustains_runRequest ..
  | hold t => exact sustains_holdRequest ..
  | resume t => exact sustains_resumeRequest ..
  | skipStep t => exact sustains_skipRequest ..
  | abort t => exact sustains_abortRequest ..
  | safeStop t => exact sustains_safeStopRequest ..
  | recover t => exact sustains_recoverRequest ..
  | recipeOpen i n o r z m k => exact SameGas.sustains_of_heat (sameGas_recipeOpen ..) (sameHeat_recipeOpen ..)
  | recipeStep l i r => exact SameGas.sustains_of_heat (sameGas_recipeStep ..) (sameHeat_recipeStep ..)
  | recipeClose => exact SameGas.sustains_of_heat (sameGas_recipeClose s) (sameHeat_recipeClose s)
  | recipeCancel => exact SameGas.sustains_of_heat (sameGas_recipeCancel s) (sameHeat_recipeCancel s)
  | recipeDrop i => exact SameGas.sustains_of_heat (sameGas_recipeDrop ..) (sameHeat_recipeDrop ..)
  | recipeDropOwner o => exact SameGas.sustains_of_heat (sameGas_setStore ..) (sameHeat_setStore ..)
  | loadTuning b e1 e2 e3 e4 e5 => exact sustains_loadTuning ..
  | setBudget b => exact SameGas.sustains_of_heat (sameGas_setBudget ..) (sameHeat_setBudget ..)
  | setSpeedTable t es => exact SameGas.sustains_of_heat (sameGas_setSpeedTable ..) (sameHeat_setSpeedTable ..)
  | boatJog t x v => exact sustains_boatJog ..
  | setFaultPolicy k e l a => exact SameGas.sustains_of_heat (sameGas_setFaultPolicy ..) (sameHeat_setFaultPolicy ..)
  | clearFaults t ks => exact SameGas.sustains_of_heat (sameGas_clearFaults ..) (sameHeat_clearFaults ..)
  | identify | queryTube | readRecipe | queryZones | queryPower | queryGas | queryAtmosphere | queryBoat | readLog
  | queryFaults => exact .refl s

theorem sustains_setLink (s : State) (l : Link) : Sustains s (s.setLink l) :=
  SameGas.sustains ⟨rfl, rfl, rfl⟩ fun _ => rfl

theorem sustains_takeFrame (s : State) (f : Frame) : Sustains s (s.takeFrame f) := by
  have hanswer : Sustains s (s.answerFrame f).1 := by
    unfold State.answerFrame
    split
    · exact .refl s
    · exact .refl s
    · exact sustains_serve ..
  exact hanswer.trans (sustains_setLink ..)

theorem sustains_takeRequests (n : Nat) (s : State) : Sustains s (takeRequests n s) := by
  induction n generalizing s with
  | zero => exact .refl s
  | succ n ih =>
    unfold takeRequests
    split
    · exact .refl s
    · split
      · exact ((sustains_setLink ..).trans (sustains_takeFrame ..)).trans (ih _)
      · exact .refl s

theorem sustains_takeAll (s : State) : Sustains s s.takeAll := sustains_takeRequests ..

theorem sustains_completeGood (s : State) (f : Frame) : Sustains s (s.completeGood f) :=
  (sustains_setLink ..).trans (sustains_takeAll _)

theorem sustains_receive (s : State) (b : Byte) : Sustains s (s.receive b) := by
  unfold State.receive
  dsimp only
  split
  · split
    · exact sustains_setLink ..
    · exact .refl s
  · split <;> exact sustains_setLink ..
  · exact sustains_setLink ..
  · unfold State.completeFrame
    dsimp only
    split
    · exact (sustains_setLink ..).trans (sustains_completeGood ..)
    · exact (sustains_setLink ..).trans (sustains_setLink ..)

/-! ### Every command -/

/-- The part stands at its reset values (R177), or its gas supply is sustained. -/
def ResetsOrSustains (s n : State) : Prop :=
  (∃ lines held pending, n = State.resetAt lines held pending) ∨ Sustains s n

theorem follows_resetAt (s : State) (l : Lines) (held : Bool) (p : List Instr) :
    ResetsOrSustains s (State.resetAt l held p) := .inl ⟨l, held, p, rfl⟩

theorem follows_transmitComplete (s : State) : ResetsOrSustains s s.transmitComplete := by
  unfold State.transmitComplete
  split
  · exact .inr (.refl s)
  · split
    · exact follows_resetAt ..
    · exact .inr ((sustains_setLink ..).trans (sustains_takeAll _))
  · exact .inr ((sustains_setLink ..).trans (sustains_takeAll _))

theorem follows_act {f : State → State} (h : s.act f = .next n) (hf : ResetsOrSustains s (f s)) :
    ResetsOrSustains s n := by
  cases hreset : s.inReset with
  | true =>
    rw [State.act_held hreset] at h
    cases h
    exact .inr (.refl _)
  | false =>
    rw [State.act_eq hreset] at h
    cases h
    exact hf

theorem follows_sustained {f : State → State} (h : s.act f = .next n) (hf : Sustains s (f s)) :
    ResetsOrSustains s n := follows_act h (.inr hf)

/-- A command that begins an event of the plant. -/
theorem follows_first (first : Ctx → Ctx × List Task) (h : s.act (fun s => s.event first) = .next n)
    (hf : Starts s (first (Ctx.start s false))) : ResetsOrSustains s n := follows_sustained h (sustains_event hf)

/-- A command that gives one message which a dormant bank can give. -/
theorem follows_message (k : Task) (h : s.act (fun s => s.eventOf [k]) = .next n) (hk : still k = true) :
    ResetsOrSustains s n :=
  follows_sustained h (sustains_eventOf fun j hj => by rw [List.mem_singleton.1 hj]; exact hk)

/-- An edge of an input line: in reset the line alone follows (R177). -/
theorem follows_edge {a b : State} (h : (Host.Outcome.next (if s.inReset then a else b) : Out) = .next n)
    (ha : Sustains s a) (hb : Sustains s b) : ResetsOrSustains s n := by
  cases h
  split
  · exact .inr ha
  · exact .inr hb

theorem sustains_lines (s : State) (l : Lines) : Sustains s { s with lines := l } :=
  SameGas.sustains ⟨rfl, rfl, rfl⟩ fun _ => rfl

theorem sustains_sampleArrival (s : State) (t : Tube) (z : Zone) (tc : Thermocouple) (v : Reading) :
    Sustains s (s.sampleArrival t z tc v) := by
  unfold State.sampleArrival
  split
  · have hwritten : Sustains s (s.writeSample t z tc (readingSample v)) := by
      unfold State.writeSample
      dsimp only
      split <;> exact SameGas.sustains ⟨rfl, rfl, rfl⟩ fun _ => rfl
    refine hwritten.trans (sustains_eventOf ?_)
    split <;> simp [still]
  · exact .refl s

theorem sustains_passEvent (s : State) : Sustains s (passEvent s) := by
  have hpass : Sustains s s.allocate := by
    obtain ⟨a, -, hs⟩ := allocate_spec s
    rw [hs]
    exact SameGas.sustains ⟨rfl, rfl, rfl⟩ fun _ => rfl
  refine hpass.trans (sustains_eventOf fun k hk => ?_)
  obtain ⟨p, -, rfl⟩ := List.mem_map.1 hk
  rfl

theorem sustains_logSequenceWrap (s : State) : Sustains s
    (if s.faults.nextSeq = 4294967295 then
      (s.setFaults s.faults.tookReport).eventOf [wrapTask (Config.wrapReport s.faults.wraps)] else s) := by
  split
  · refine .trans (n := s.setFaults s.faults.tookReport) (SameGas.sustains ⟨rfl, rfl, rfl⟩ fun _ => rfl)
      (sustains_eventOf ?_)
    intro k hk
    rw [List.mem_singleton.1 hk, wrapTask]
    split <;> rfl
  · exact .refl s

/-- Whatever command is run, the part is reset or its gas supply is sustained. -/
theorem exec_follows {i : Instr} (h : exec i s = .next n) : ResetsOrSustains s n := by
  cases hreq : instrRequest i with
  | some p =>
    rw [exec_of_instrRequest (tag := p.1) (r := p.2) hreq] at h
    exact follows_sustained h (sustains_completeGood ..)
  | none =>
    cases i with
    | rxByte b => exact follows_sustained (f := fun s => s.receive b) h (sustains_receive s b)
    | rxFramingError => exact follows_sustained (f := fun s => s.setLink s.link.hunt) h (sustains_setLink ..)
    | silenceTimeout => exact follows_sustained (f := fun s => s.setLink s.link.hunt) h (sustains_setLink ..)
    | takeRequest => exact follows_sustained h (sustains_takeAll s)
    | transmitComplete => exact follows_act h (follows_transmitComplete s)
    | powerOn => cases h; exact follows_resetAt ..
    | resetN => cases h; exact follows_resetAt ..
    | resetRelease strap =>
      cases h
      split
      · exact follows_resetAt ..
      · exact .inr (.refl s)
    | uptimeTick =>
      exact follows_sustained (f := fun s => { s with time := { s.time with uptime := s.time.uptime + 1 } }) h
        (SameGas.sustains ⟨rfl, rfl, rfl⟩ fun _ => rfl)
    | stepTimerTick t => exact follows_first (stepTimerTick t) h (starts_stepTimerTick t (Ctx.start s false))
    | stepTimeElapsed t => exact follows_message (.stepElapsed t) h rfl
    | stepTimeout t => exact follows_message (.stepTimeout t) h rfl
    | sampleArrival t z tc v => exact follows_sustained h (sustains_sampleArrival ..)
    | thermalTick t => exact follows_first (thermalTickStart t) h (starts_thermalTickStart t (Ctx.start s false))
    | rampStalled t => exact follows_message (.rampStalled t) h rfl
    | allocationPass =>
      rw [ZoneSteps.exec_allocationPass] at h
      exact follows_sustained h (sustains_passEvent s)
    | powerStarved t z => exact follows_message (.powerStarved t z) h rfl
    | loadShedEdge rising =>
      exact follows_edge h (sustains_lines ..) (sustains_event (starts_shedEdge rising (Ctx.start s false)))
    | flowReadback t l v =>
      exact follows_first (flowReadback t l (s.gas.writeReadback t l v)) h
        (starts_flowReadback t l v (Ctx.start s false))
    | gasTick t => exact follows_first (gasTickStart t) h (starts_gasTickStart t (Ctx.start s false))
    | admitted => exact follows_message .examine h rfl
    | headerWaitTimeout t => exact follows_message (.headerWait t) h rfl
    | flowDeviation t l => exact follows_message (.flowDeviation t l) h rfl
    | purgeComplete t => exact follows_message (.purgeComplete t) h rfl
    | purgeIncomplete t => exact follows_message (.purgeIncomplete t) h rfl
    | ignitionChange t => exact follows_message (.ignitionTest t) h rfl
    | flameSenseRise t =>
      exact follows_edge h (sustains_lines ..) (sustains_event (starts_flameRise t (Ctx.start s false)))
    | flameSenseFall t =>
      exact follows_edge h (sustains_lines ..) (sustains_event (starts_flameFall t (Ctx.start s false)))
    | ignitionFailed t => exact follows_message (.ignitionFailed t) h rfl
    | postFlowEnd t => exact follows_message (.postFlowEnd t) h rfl
    | positionArrival t v => exact follows_first (positionArrival t v) h (starts_positionArrival t v (Ctx.start s false))
    | motionTick t => exact follows_first (motionTick t) h (starts_motionTick t (Ctx.start s false))
    | moveStart t => exact follows_message (.moveStart t) h rfl
    | openLimitEdge t rising =>
      exact follows_edge h (sustains_lines ..) (sustains_event (starts_openLimitEdge t rising (Ctx.start s false)))
    | closedLimitEdge t rising =>
      exact follows_edge h (sustains_lines ..) (sustains_event (starts_closedLimitEdge t rising (Ctx.start s false)))
    | settleTimeout t => exact follows_message (.settleTimeout t) h rfl
    | shutterTimeout t => exact follows_message (.shutterTimeout t) h rfl
    | bankLineEdge l rising =>
      exact follows_edge h (sustains_lines ..) (sustains_event (starts_bankLineEdge l rising (Ctx.start s false)))
    | logSequenceWrap => exact follows_sustained h (sustains_logSequenceWrap s)
    | _ => cases hreq

theorem step_follows (h : step s = .next n) : ResetsOrSustains s n := by
  unfold step at h
  split at h
  · cases h
    exact .inr (.refl _)
  next i rest _ =>
    have hqueue : Sustains s { s with pending := rest } := SameGas.sustains ⟨rfl, rfl, rfl⟩ fun _ => rfl
    exact (exec_follows h).imp_right hqueue.trans

end

/-! ### The values after reset (R177) -/

section

variable (l : Lines) (held : Bool) (p : List Instr)

theorem resetAt_headersKept : (State.resetAt l held p).headersKept := by
  intro k
  cases k <;> exact Nat.zero_le _

theorem resetAt_dormant : dormant (State.resetAt l held p) := by
  refine ⟨rfl, fun t => ?_⟩
  cases t <;> exact ⟨rfl, rfl, rfl, rfl⟩

theorem resetAt_torch (t : Tube) : torchOf (State.resetAt l held p) t := by
  obtain ⟨flame, hatm⟩ : ∃ flame, (State.resetAt l held p).atm.get t = .resetAt flame := by cases t <;> exact ⟨_, rfl⟩
  have hsupply : supply (State.resetAt l held p).gas t =
      { granted := PerLine.all 0, commands := PerLine.all 0, safety := false, entries := [] } := by cases t <;> rfl
  unfold torchOf
  rw [hatm, hsupply]
  exact ⟨by simp [PerLine.all], by simp [AtmRec.resetAt], rfl, rfl, rfl, by simp [AtmRec.resetAt],
    by simp [AtmRec.resetAt], by simp, Nat.zero_le _⟩

theorem resetAt_torchesSound : (State.resetAt l held p).torchesSound := (torchesSound_iff _).2 (resetAt_torch l held p)

theorem resetAt_ratiosKept : (State.resetAt l held p).ratiosKept :=
  have hdormant := resetAt_dormant l held p
  (ratiosKept_iff _).2 ⟨boundedOf_dormant hdormant, fun _ => hdormant⟩

end

/-- Settles O49: under a locked configuration a grant is a lowering or passes the admission test, and a reset grants
nothing. -/
theorem headersStayWithinTheirLimits : Obligations.HeadersStayWithinTheirLimits := by
  intro s n hlocked hkept h
  obtain ⟨l, held, p, rfl⟩ | hsustains := step_follows h
  · exact resetAt_headersKept l held p
  · exact hsustains.headers hlocked hkept

/-- Settles O52: hydrogen reaches a tube only by a change that leads to IGNITE or LIT, and each way out of these states shuts
it. -/
theorem torchesStaySound : Obligations.TorchesStaySound := by
  refine ⟨fun s n hsound h => ?_, fun s n hsound hkept h => ?_⟩ <;> obtain ⟨l, held, p, rfl⟩ | hsustains := step_follows h
  · exact resetAt_torchesSound l held p
  · exact hsustains.torches hsound
  · exact resetAt_ratiosKept l held p
  · exact hsustains.ratios hsound hkept

end Sys2Proof.GasSteps

/-! SUPPORT. The atmosphere controllers' tables: a request merged, clamped and classed, a change of flows in force and waiting,
the path to a target by the present state (R101 to R106, R108, R110, R115 to R117). -/

namespace Sys2Proof.GasPaths

open Sys2Proof.Machine Sys2Proof.GasRules Sys2Proof.GasInvariants

section

variable {a : AtmRec} {cfg : TubeConfig} {f : Flows} {p : Phase} {origin : WaitOrigin} {c : Ctx} {t : Tube}

/-! ### Classes and the ratio clamp (R101, R103, R105) -/

theorem classOf_doping_iff (f : Flows) : classOf f = .doping ↔ f.h2 = 0 ∧ 0 < f.aux := by
  unfold classOf
  split
  · simp; omega
  · split
    · simp; omega
    · split <;> simp <;> omega

theorem classOf_oxidizing_iff (f : Flows) : classOf f = .oxidizing ↔ f.h2 = 0 ∧ f.aux = 0 ∧ 0 < f.o2 := by
  unfold classOf
  split
  · simp; omega
  · split
    · simp; omega
    · split <;> simp <;> omega

theorem clampFlows_of_le {ratio : Nat} (h : f.h2 ≤ ratio * f.o2 / 100) : clampFlows ratio f = f := by
  simp [clampFlows, ratioLimit, Nat.min_eq_left h]

theorem clampFlows_of_lt {ratio : Nat} (h : ratio * f.o2 / 100 < f.h2) :
    clampFlows ratio f = { f with h2 := ratio * f.o2 / 100 } := by
  simp [clampFlows, ratioLimit, Nat.min_eq_right h.le]

theorem purgeNeeded_iff {leaving target : AtmClass} : purgeNeeded leaving target = true ↔ target = .steam ∨
    leaving ≠ target ∧ (leaving = .doping ∨ leaving = .steam ∨ target = .doping) := by
  simp [purgeNeeded, or_assoc]

/-! ### A change of flows (R106, R108, R110) -/

theorem land_cls (a : AtmRec) (cfg : TubeConfig) (p : Phase) (f : Flows) : (a.land cfg p f).cls = classOf f := by
  obtain ⟨-, -, -, hcls, -⟩ := enterPhase_frame (a.takeFlows cfg f (p = .preflow || p = .ignite)) cfg p
  exact hcls

theorem land_purged_iff (a : AtmRec) (cfg : TubeConfig) (p : Phase) (f : Flows) : (a.land cfg p f).purged = true ↔
    a.purged = true ∧ (p = .preflow ∨ p = .ignite ∨ f = cfg.purgeFlows) := by
  obtain ⟨-, -, -, -, hpurged⟩ := enterPhase_frame (a.takeFlows cfg f (p = .preflow || p = .ignite)) cfg p
  have hland : (a.land cfg p f).purged = _ := hpurged
  rw [hland]
  simp [AtmRec.takeFlows, or_assoc]

/-- What an entry from another state sets (R108, R110). -/
theorem enterPhase_purge (h : a.state ≠ .purge) : a.enterPhase cfg .purge = a.beginPurge cfg := if_neg h

theorem enterPhase_preflow (h : a.state ≠ .preflow) :
    a.enterPhase cfg .preflow = { a with state := .preflow, phaseTimer := 0 } := if_neg h

theorem enterPhase_ignite (h : a.state ≠ .ignite) :
    a.enterPhase cfg .ignite = { a with state := .ignite, phaseTimer := 0, igniter := true } := if_neg h

theorem land_purge (h : a.state ≠ .purge) :
    a.land cfg .purge f = { (a.takeFlows cfg f false).beginPurge cfg with awaited := none } :=
  congrArg (fun b : AtmRec => { b with awaited := none }) (enterPhase_purge (a := a.takeFlows cfg f false) h)

theorem land_preflow_phaseTimer (h : a.state ≠ .preflow) : (a.land cfg .preflow f).phaseTimer = 0 :=
  congrArg AtmRec.phaseTimer (enterPhase_preflow (a := a.takeFlows cfg f true) h)

theorem land_ignite (h : a.state ≠ .ignite) :
    (a.land cfg .ignite f).phaseTimer = 0 ∧ (a.land cfg .ignite f).igniter = true :=
  have hentered := enterPhase_ignite (a := a.takeFlows cfg f true) (cfg := cfg) h
  ⟨congrArg AtmRec.phaseTimer hentered, congrArg AtmRec.igniter hentered⟩

/-- The state after a change of flows: the arbiter's records and the tube's atmosphere record are written. -/
theorem submitChange_s (t : Tube) (f : Flows) (p : Phase) (origin : WaitOrigin) (c : Ctx) :
    let r := c.s.gas.submit c.s.config.bank.headers t f
    let n := (submitChange t f p origin c).1.s
    n = { c.s with gas := r.1, atm := c.s.atm.set t (n.atm.get t) } := by
  unfold submitChange
  dsimp only [Ctx.put_s]
  simp only [State.setAtm, State.setGas, PerTube.get_set_same]

/-- An applied change puts the flows submitted in force and enters its phase. -/
theorem submitChange_applied (h : (c.s.gas.submit c.s.config.bank.headers t f).2.1 = .applied) :
    (submitChange t f p origin c).1.s.atm.get t = (c.s.atm.get t).land (c.s.tubeConfig t) p f := by
  obtain ⟨hcase, -, -⟩ := submit_spec c.s.gas c.s.config.bank.headers t f
  cases hcase with
  | waits hverdict => exact absurd h hverdict
  | applied _ hsupply =>
    have hcommands := congrArg Supply.commands hsupply
    rw [supply_commands] at hcommands
    unfold submitChange
    dsimp only [Ctx.put_s]
    rw [h, hcommands]
    exact PerTube.get_set_same ..

theorem submitChange_waits (h : (c.s.gas.submit c.s.config.bank.headers t f).2.1 ≠ .applied) :
    (submitChange t f p origin c).1.s.atm.get t = (c.s.atm.get t).wait p origin := by
  unfold submitChange
  dsimp only [Ctx.put_s]
  split
  next happlied => exact absurd happlied h
  next => exact PerTube.get_set_same ..

/-! ### The path to a target (R105, R116, R117) -/

theorem pathFromStable_purge {leaving : AtmClass} (h : (c.s.atm.get t).targetClass = .steam ∨
      purgeNeeded leaving (c.s.atm.get t).targetClass = true ∧ (c.s.atm.get t).purged = false) :
    pathFromStable t leaving origin c = submitChange t (c.s.tubeConfig t).purgeFlows .purge origin
      (c.put (c.s.setAtm t { c.s.atm.get t with purgeOrigin := leaving })) := by
  unfold pathFromStable
  exact if_pos (by simpa using h)

theorem pathFromStable_direct {leaving : AtmClass} (hsteam : (c.s.atm.get t).targetClass ≠ .steam)
    (h : ¬ purgeNeeded leaving (c.s.atm.get t).targetClass = true ∨ (c.s.atm.get t).purged = true) :
    pathFromStable t leaving origin c = submitChange t (c.s.atm.get t).target .stable origin c := by
  unfold pathFromStable
  refine if_neg ?_
  simpa [hsteam, imp_iff_not_or] using h

/-- Where the path is that from STABLE: the tube's own class, and the origin of the change it makes (R105, R116). -/
theorem taskRecompute_stable (w : Bool) (h : (c.s.atm.get t).state = .stable ∨ (c.s.atm.get t).state = .safeFlow ∨
      (c.s.atm.get t).state = .waitHeader ∧ (c.s.atm.get t).waitOrigin = .stable) :
    taskRecompute t w c = pathFromStable t (c.s.atm.get t).cls .stable c := by
  obtain h | h | ⟨h, ho⟩ := h
  · simp only [taskRecompute, h]
  · simp only [taskRecompute, h]
  · simp only [taskRecompute, h, ho]

theorem taskRecompute_purgeSuperseded (w : Bool) (h : (c.s.atm.get t).state = .waitHeader)
    (ho : (c.s.atm.get t).waitOrigin = .purgeSuperseded) :
    taskRecompute t w c = pathFromStable t (c.s.atm.get t).purgeOrigin .purgeSuperseded c := by
  simp only [taskRecompute, h, ho]

theorem taskRecompute_purgeDone (w : Bool) (h : (c.s.atm.get t).state = .waitHeader)
    (ho : (c.s.atm.get t).waitOrigin = .purgeDone) : taskRecompute t w c = continuation t c := by
  simp only [taskRecompute, h, ho]

theorem taskRecompute_afterExtinguish (w : Bool) (h : (c.s.atm.get t).state = .waitHeader)
    (ho : (c.s.atm.get t).waitOrigin = .extinguish) : taskRecompute t w c =
      if w then submitChange t (c.s.tubeConfig t).purgeFlows .purge .extinguish c else (c, []) := by
  simp only [taskRecompute, h, ho]

theorem taskRecompute_purge (w : Bool) (h : (c.s.atm.get t).state = .purge) : taskRecompute t w c =
    if purgeNeeded (c.s.atm.get t).purgeOrigin (c.s.atm.get t).targetClass then (c, [])
    else submitChange t (c.s.atm.get t).target .stable .purgeSuperseded
      (c.put (c.s.setAtm t { c.s.atm.get t with incomplete := false })) := by
  simp only [taskRecompute, h]

theorem taskRecompute_preflow_unmarked (w : Bool) (h : (c.s.atm.get t).state = .preflow)
    (hsteam : (c.s.atm.get t).targetClass = .steam) (hmark : (c.s.atm.get t).awaited = none) : taskRecompute t w c =
      if preflowFlows (c.s.atm.get t).target = (c.s.atm.get t).inForce then (c, [])
      else submitChange t (preflowFlows (c.s.atm.get t).target) .preflow .stable c := by
  simp [taskRecompute, h, hsteam, hmark]

theorem taskRecompute_preflow_marked (w : Bool) (h : (c.s.atm.get t).state = .preflow)
    (hsteam : (c.s.atm.get t).targetClass = .steam) (hmark : (c.s.atm.get t).awaited = some p) :
    taskRecompute t w c = submitChange t ((c.s.atm.get t).remark (c.s.tubeConfig t)).1
      ((c.s.atm.get t).remark (c.s.tubeConfig t)).2 .stable c := by
  simp [taskRecompute, h, hsteam, hmark]

theorem remark_preflow (cfg : TubeConfig) (hmark : a.awaited = some .preflow) :
    a.remark cfg = (preflowFlows a.target, .preflow) := by
  rw [AtmRec.remark, hmark]

theorem remark_ignite (cfg : TubeConfig) (hmark : a.awaited = some .ignite) :
    a.remark cfg = (cfg.ignitionFlows a.target, .ignite) := by
  rw [AtmRec.remark, hmark]

theorem taskRecompute_ignite (w : Bool) (h : (c.s.atm.get t).state = .ignite)
    (hsteam : (c.s.atm.get t).targetClass = .steam) : taskRecompute t w c = (c, []) := by
  simp only [taskRecompute, h, hsteam, if_true]

theorem taskRecompute_lit (w : Bool) (h : (c.s.atm.get t).state = .lit)
    (hsteam : (c.s.atm.get t).targetClass = .steam) :
    taskRecompute t w c = submitChange t (c.s.atm.get t).target .lit .stable c := by
  simp only [taskRecompute, h, hsteam, if_true]

/-- The torch is put out for a target of another class (R116). -/
theorem taskRecompute_leavesTorch (w : Bool)
    (h : (c.s.atm.get t).state = .preflow ∨ (c.s.atm.get t).state = .ignite ∨ (c.s.atm.get t).state = .lit)
    (hsteam : (c.s.atm.get t).targetClass ≠ .steam) : taskRecompute t w c = extinguish t [] c := by
  obtain h | h | h := h <;> simp only [taskRecompute, h, hsteam, if_false]

theorem taskRecompute_extinguish (w : Bool) (h : (c.s.atm.get t).state = .extinguish) :
    taskRecompute t w c = (c, []) := by
  simp only [taskRecompute, h]

end

/-! ### Requests, withdrawals and extinguishing (R104, R115, R117) -/

section

variable {c : Ctx} {t : Tube}

theorem taskGasRequest_target (t : Tube) (q : PerLine (Option Nat)) (c : Ctx) :
    let merged := mergeFlows (c.s.atm.get t).requested q
    let b := (taskGasRequest t q c).1.s.atm.get t
    b.requested = merged ∧ b.target = clampFlows (c.s.tubeConfig t).ratio merged ∧ b.targetClass = classOf b.target := by
  unfold taskGasRequest
  simp

theorem taskWithdraw_absent (h : c.s.gas.entry? t = none) : taskWithdraw t c = (c, []) := by
  unfold taskWithdraw
  rw [h]

theorem taskWithdraw_waiting (h : (c.s.gas.entry? t).isSome = true) : taskWithdraw t c =
    (c.put ((c.s.setGas (c.s.gas.removeEntry t)).setAtm t { c.s.atm.get t with
        requested := (c.s.atm.get t).inForce, target := (c.s.atm.get t).inForce,
        targetClass := classOf (c.s.atm.get t).inForce, fallback := false, awaited := none }),
      [.recompute t true, .examine]) := by
  obtain ⟨e, he⟩ := Option.isSome_iff_exists.1 h
  unfold taskWithdraw
  rw [he]

theorem extinguish_outcome (t : Tube) (mid : List Task) (c : Ctx) :
    let n := (extinguish t mid c).1.s
    let b := n.atm.get t
    n.gas = (c.s.gas.submit c.s.config.bank.headers t (extinguishFlows (c.s.atm.get t).inForce)).1 ∧
      (b.state = .extinguish ∧ b.phaseTimer = 0 ∧ b.igniter = false ∧ b.awaited = none ∧ b.purgeOrigin = .steam) ∧
      b.inForce = n.gas.commands t ∧ b.cls = classOf (n.gas.commands t) := by
  unfold extinguish
  simp [AtmRec.takeFlows]

end

/-- A change applied to a tube in another state enters its phase with the phase's data (R108, R110). -/
theorem submitChange_enters (t : Tube) (f : Flows) (p : Phase) (origin : WaitOrigin) (c : Ctx)
    (h : (c.s.gas.submit c.s.config.bank.headers t f).2.1 = .applied) :
    let a := c.s.atm.get t
    let cfg := c.s.tubeConfig t
    let b := (submitChange t f p origin c).1.s.atm.get t
    (p = .purge → a.state ≠ p.state → b = { (a.takeFlows cfg f false).beginPurge cfg with awaited := none }) ∧
      (p = .preflow → a.state ≠ p.state → b.phaseTimer = 0) ∧
      (p = .ignite → a.state ≠ p.state → b.phaseTimer = 0 ∧ b.igniter = true) := by
  intro a cfg b
  have hb : b = a.land cfg p f := submitChange_applied h
  rw [hb]
  refine ⟨?_, ?_, ?_⟩ <;> rintro rfl hne
  · exact land_purge hne
  · exact land_preflow_phaseTimer hne
  · exact land_ignite hne

/-- Settles O53: the tables of the atmosphere controller, clause by clause. -/
theorem classAndClampOfFlows : Obligations.ClassAndClampOfFlows := by
  refine ⟨fun c t q => ?_, fun c t => ⟨taskWithdraw_absent, taskWithdraw_waiting⟩, fun c t f p origin => ?_, fun c t w => ?_,
    fun c t mid => ?_⟩
  · obtain ⟨hrequested, htarget, hclass⟩ := taskGasRequest_target t q c
    refine ⟨hrequested, fun h => htarget.trans (clampFlows_of_le h), fun h => htarget.trans (clampFlows_of_lt h),
      ?_, ?_, ?_, rfl, rfl, rfl, rfl⟩
    · rw [hclass]; exact classOf_steam_iff _
    · rw [hclass]; exact classOf_doping_iff _
    · rw [hclass]; exact classOf_oxidizing_iff _
  · refine ⟨submitChange_s t f p origin c, fun happlied => ?_, submitChange_waits⟩
    obtain ⟨hpurge, hpreflow, hignite⟩ := submitChange_enters t f p origin c happlied
    have hb := submitChange_applied (p := p) (origin := origin) happlied
    refine ⟨?_, ?_, ?_, ?_, ?_, fun hne => ⟨fun hp => ?_, fun hp => hpreflow hp hne, fun hp => hignite hp hne⟩⟩
    · rw [hb]; exact land_inForce ..
    · rw [hb]; exact land_cls ..
    · rw [hb]; exact land_awaited ..
    · rw [hb]; exact land_state ..
    · rw [hb]; exact land_purged_iff ..
    · rw [hpurge hp hne]
      exact ⟨rfl, rfl, rfl, rfl, rfl, rfl⟩
  · intro a cfg steam need purge preflow ignition e path
    have hneed : ∀ {leaving}, purgeNeeded leaving a.targetClass = true ↔ need leaving := purgeNeeded_iff
    have hpath : ∀ {leaving o}, e = pathFromStable t leaving o c → path leaving o := by
      intro leaving o he
      refine ⟨fun h => ?_, fun hsteam h => ?_⟩
      · exact he.trans (pathFromStable_purge (h.imp_right fun h => ⟨hneed.2 h.1, h.2⟩))
      · exact he.trans (pathFromStable_direct hsteam (h.imp_left fun h => mt hneed.1 h))
    refine ⟨fun h => hpath (taskRecompute_stable w h), fun h ho => hpath (taskRecompute_purgeSuperseded w h ho),
      fun h ho => ?_, taskRecompute_afterExtinguish w, fun h => ?_, fun h hsteam => ?_, taskRecompute_ignite w,
      taskRecompute_lit w, taskRecompute_leavesTorch w, taskRecompute_extinguish w⟩
    · exact ⟨fun hsteam => (taskRecompute_purgeDone w h ho).trans (if_pos hsteam),
        fun hsteam => (taskRecompute_purgeDone w h ho).trans (if_neg hsteam)⟩
    · exact ⟨fun hn => (taskRecompute_purge w h).trans (if_pos (hneed.2 hn)),
        fun hn => (taskRecompute_purge w h).trans (if_neg (mt hneed.1 hn))⟩
    · refine ⟨fun hmark hsame => (taskRecompute_preflow_unmarked w h hsteam hmark).trans (if_pos hsame),
        fun hmark hother => (taskRecompute_preflow_unmarked w h hsteam hmark).trans (if_neg hother),
        fun hmark => ?_, fun hmark => ?_⟩
      · exact (taskRecompute_preflow_marked w h hsteam hmark).trans (by rw [remark_preflow _ hmark]; rfl)
      · exact (taskRecompute_preflow_marked w h hsteam hmark).trans (by rw [remark_ignite _ hmark]; rfl)
  · obtain ⟨hgas, hphase, hforce, hcls⟩ := extinguish_outcome t mid c
    obtain ⟨hstate, htimer, higniter, hawaited, horigin⟩ := hphase
    refine ⟨hstate, htimer, higniter, hawaited, horigin, fun hgranted => ?_⟩
    have hsupply : supply (extinguish t mid c).1.s.gas t = _ :=
      (congrArg (supply · t) hgas).trans (submit_extinguish hgranted)
    have hcommands := congrArg Supply.commands hsupply
    rw [supply_commands] at hcommands
    exact ⟨hcommands, congrArg Supply.granted hsupply, hforce.trans hcommands, hcls.trans (congrArg classOf hcommands),
      entry?_eq_none_iff.2 (congrArg Supply.entries hsupply)⟩

end Sys2Proof.GasPaths

/-! SUPPORT. The row FLOW_READBACK: the readback written, and what an N2 readback does to a boat that travels, is paused or
waits (R87, R125, R133). -/

namespace Sys2Proof.GasReadbacks

open Sys2Proof.Machine Sys2Proof.ZoneControl Sys2Proof.GasRules Sys2Proof.GasInvariants Sys2Proof.GasEvents

section

variable {s : State} {b : BoatRec} {e : BoatEnv} {t : Tube} {l : GasLine} {v : Nat}

/-! ### What an N2 readback does to a boat (R125, R133) -/

theorem torch_eq_false_iff {st : AtmState} : st.torch = false ↔ st ≠ .preflow ∧ st ≠ .ignite ∧ st ≠ .lit := by
  cases st <;> simp [AtmState.torch]

/-- The start conditions of a move, with the N2 readback `v` (R125). -/
theorem canStart_iff (s : State) (t : Tube) (v : Nat) : b.canStart { s.boatEnv t with n2 := v } = true ↔
    b.pos ≠ none ∧ b.measured ≠ none ∧ ¬ v < (s.tubeConfig t).boatN2Min ∧ (s.atm.get t).state ≠ .preflow ∧
      (s.atm.get t).state ≠ .ignite ∧ (s.atm.get t).state ≠ .lit ∧ b.holdFlag = false := by
  dsimp only [BoatRec.canStart, State.boatEnv]
  simp [torch_eq_false_iff, Option.isSome_iff_ne_none, and_assoc]

theorem nitrogen_stands (h : b.state ≠ .travel ∧ b.state ≠ .paused ∧ b.state ≠ .waitCond) : b.nitrogen e = b := by
  obtain ⟨htravel, hpaused, hwait⟩ := h
  unfold BoatRec.nitrogen
  split
  case h_1 hst => exact absurd hst htravel
  case h_2 hst => exact absurd hst hpaused
  case h_3 hst => exact absurd hst hwait
  case h_4 => rfl

/-- Nitrogen below the boat minimum pauses a travelling boat. -/
theorem nitrogen_travel_low (h : b.state = .travel) (hlow : e.n2 < e.n2Min) :
    b.nitrogen e = { b with pauseN2 := true, state := .paused, speedCmd := 0 } := by
  simp [BoatRec.nitrogen, BoatRec.repause, BoatRec.pauses, h, hlow]

theorem nitrogen_travel_enough (h : b.state = .travel) (hlow : ¬ e.n2 < e.n2Min) (hhold : b.pauseHold = false) :
    b.nitrogen e = { b with pauseN2 := false } := by
  simp [BoatRec.nitrogen, BoatRec.repause, BoatRec.pauses, h, hlow, hhold]

theorem nitrogen_paused_low (h : b.state = .paused) (hlow : e.n2 < e.n2Min) :
    b.nitrogen e = { b with pauseN2 := true } := by
  simp [BoatRec.nitrogen, BoatRec.repause, BoatRec.pauses, h, hlow]

theorem nitrogen_paused_held (h : b.state = .paused) (hlow : ¬ e.n2 < e.n2Min) (hhold : b.pauseHold = true) :
    b.nitrogen e = { b with pauseN2 := false } := by
  simp [BoatRec.nitrogen, BoatRec.repause, BoatRec.pauses, h, hlow, hhold]

/-- The boat resumes when its last pause reason is gone. -/
theorem nitrogen_paused_resumes (h : b.state = .paused) (hlow : ¬ e.n2 < e.n2Min) (hhold : b.pauseHold = false) :
    b.nitrogen e = { b with pauseN2 := false, state := .travel } := by
  simp [BoatRec.nitrogen, BoatRec.repause, BoatRec.pauses, h, hlow, hhold]

theorem nitrogen_waiting_stands (h : b.state = .waitCond) (hstart : ¬ b.canStart e = true) :
    b.nitrogen e = { b with speedCmd := 0 } := by
  simp [BoatRec.nitrogen, BoatRec.judgeStart, h, hstart]

theorem nitrogen_waiting_open (h : b.state = .waitCond) (hstart : b.canStart e = true) (hopen : b.shutter = .opened) :
    b.nitrogen e = { b with state := .travel } := by
  simp [BoatRec.nitrogen, BoatRec.judgeStart, h, hstart, hopen]

theorem nitrogen_waiting_opens (h : b.state = .waitCond) (hstart : b.canStart e = true) (hshut : b.shutter ≠ .opened)
    (hlimit : b.openLimit = false) :
    b.nitrogen e = { b with state := .shutterOpening, shutter := .opening, phaseTimer := 0, speedCmd := 0 } := by
  simp [BoatRec.nitrogen, BoatRec.judgeStart, BoatRec.startOpening, h, hstart, hshut, hlimit]

theorem openingEnd_travels {x : Nat} (htarget : b.target = some x) (hpos : b.pos ≠ some x)
    (hstart : b.canStart e = true) : b.openingEnd e = { b with state := .travel, remainder := 0 } := by
  rw [BoatRec.openingEnd, htarget]
  exact (if_neg hpos).trans (if_pos hstart)

/-- With the open limit high already, the opening phase ends at once and the boat travels. -/
theorem nitrogen_waiting_opened {x : Nat} (h : b.state = .waitCond) (hstart : b.canStart e = true)
    (hshut : b.shutter ≠ .opened) (hlimit : b.openLimit = true) (htarget : b.target = some x) (hpos : b.pos ≠ some x) :
    b.nitrogen e = { b with shutter := .opened, state := .travel, remainder := 0 } := by
  have hopening : b.nitrogen e = BoatRec.openingEnd { b with shutter := .opened } e := by
    simp only [BoatRec.nitrogen, BoatRec.judgeStart, BoatRec.startOpening, h, hstart, hlimit, if_neg hshut, if_true]
  exact hopening.trans (openingEnd_travels htarget hpos hstart)

/-! ### FLOW_READBACK (R87) -/

theorem readback_writeReadback (g : Gas) (t : Tube) (l : GasLine) (v : Nat) :
    readback (g.writeReadback t l v) t l = some (min 65535 v) := by
  simp [readback, Gas.writeReadback, Nat.min_comm]

theorem writeReadback_eq (g : Gas) (t : Tube) (l : GasLine) (v : Nat) : g.writeReadback t l v =
    { g with
      lines := g.lines.set t
        ((g.lines.get t).set l { (g.lines.get t).get l with readback := some (min 65535 v) }) } := by
  simp only [Gas.writeReadback, Nat.min_comm v 65535]

theorem exec_flowReadback (hreset : s.inReset = false) : exec (.flowReadback t l v) s =
    .next (s.event (flowReadback t l (s.gas.writeReadback t l v))) := State.act_eq hreset fun s => s.event (flowReadback t l (s.gas.writeReadback t l v))

theorem flowReadback_gas (t : Tube) (l : GasLine) (g : Gas) (c : Ctx) : (flowReadback t l g c).1.s.gas = g := by
  unfold flowReadback
  dsimp only
  split <;> rfl

/-- No message that follows writes a readback. -/
theorem readback_flowReadback (s : State) (t : Tube) (l : GasLine) (v : Nat) :
    readback (s.event (flowReadback t l (s.gas.writeReadback t l v))).gas t l = some (min 65535 v) := by
  have hchain := (runTasks_gasHeld Config.cascadeBound
    (flowReadback t l (s.gas.writeReadback t l v) (Ctx.start s false)).2
    (flowReadback t l (s.gas.writeReadback t l v) (Ctx.start s false)).1).readbacks t l
  rw [flowReadback_gas, readback_writeReadback] at hchain
  exact hchain

/-- An N2 readback: the boat block judges it, and reports where its state or its target has changed. -/
theorem flowReadback_n2 {g : Gas} (t : Tube) (hb : (s.boat.get t).nitrogen ((s.setGas g).boatEnv t) = b) :
    s.event (flowReadback t .n2 g) = ((s.setGas g).setBoat t b).eventOf
      (if (s.boat.get t).state = b.state ∧ (s.boat.get t).target.isSome = b.target.isSome then []
        else [.boatReport t]) := by
  subst hb
  rfl

theorem setBoat_get (s : State) (t : Tube) : s.setBoat t (s.boat.get t) = s := by
  simp [State.setBoat]

theorem eventOf_nil (s : State) : s.eventOf [] = s := by
  simp [State.eventOf, State.event, Ctx.start]

/-- What the boat block reads of its neighbours once an N2 readback has arrived. -/
theorem boatEnv_writeReadback (s : State) (t : Tube) (v : Nat) :
    (s.setGas (s.gas.writeReadback t .n2 v)).boatEnv t = { s.boatEnv t with n2 := min 65535 v } := by
  have hn2 : (s.gas.writeReadback t .n2 v).n2Readback t = min 65535 v :=
    congrArg (·.getD 0) (readback_writeReadback s.gas t .n2 v)
  unfold State.boatEnv
  rw [State.setGas_gas, hn2]
  rfl

/-- An N2 readback that leaves the boat's state and target. -/
theorem exec_flowReadback_keeps (hreset : s.inReset = false) (hl : l = .n2)
    (hb : (s.boat.get t).nitrogen { s.boatEnv t with n2 := min 65535 v } = b)
    (hstate : b.state = (s.boat.get t).state) (htarget : b.target = (s.boat.get t).target) :
    exec (.flowReadback t l v) s = .next ((s.setGas (s.gas.writeReadback t l v)).setBoat t b) := by
  subst hl
  rw [← boatEnv_writeReadback] at hb
  rw [exec_flowReadback hreset, flowReadback_n2 t hb, if_pos ⟨hstate.symm, by rw [htarget]⟩, eventOf_nil]

/-- An N2 readback that takes the boat to another state. -/
theorem exec_flowReadback_moves (hreset : s.inReset = false) (hl : l = .n2)
    (hb : (s.boat.get t).nitrogen { s.boatEnv t with n2 := min 65535 v } = b)
    (hstate : (s.boat.get t).state ≠ b.state) : exec (.flowReadback t l v) s =
      .next (((s.setGas (s.gas.writeReadback t l v)).setBoat t b).eventOf [.boatReport t]) := by
  subst hl
  rw [← boatEnv_writeReadback] at hb
  rw [exec_flowReadback hreset, flowReadback_n2 t hb, if_neg fun h => hstate h.1]

/-- A readback that concerns no boat: of another line than N2, or of a boat that nitrogen does not hold. -/
theorem exec_flowReadback_stands (hreset : s.inReset = false) (h : l ≠ .n2 ∨ ((s.boat.get t).state ≠ .travel ∧
      (s.boat.get t).state ≠ .paused ∧ (s.boat.get t).state ≠ .waitCond)) :
    exec (.flowReadback t l v) s = .next (s.setGas (s.gas.writeReadback t l v)) := by
  by_cases hl : l = .n2
  · rw [exec_flowReadback_keeps hreset hl (nitrogen_stands (h.resolve_left fun hn => hn hl)) rfl rfl]
    exact congrArg Host.Outcome.next (setBoat_get (s.setGas _) t)
  · rw [exec_flowReadback hreset]
    simp [State.event, flowReadback, hl, Ctx.put, Ctx.start]

end

end Sys2Proof.GasReadbacks

/-! SUPPORT. The row GAS_TICK: how a tick counts and marks the lines of a tube, what it reports, and what the atmosphere
controller does at it (R95, R97, R98, R107 to R110, R115). -/

namespace Sys2Proof.GasTicks

open Sys2Proof.Machine Sys2Proof.ZoneControl Sys2Proof.GasRules Sys2Proof.GasInvariants Sys2Proof.GasEvents
  Sys2Proof.GasReadbacks

/-! ### One line at a tick (R97, R98) -/

/-- Whether a line's readback stands farther from its command than the tolerance (R98). -/
def strays (r : LineRec) (scale : Nat) : Bool :=
  match r.readback with
  | none => false
  | some v => scale * 5 / 100 < dist v r.command

/-- The deviation run of a line that a tick judges (R98). -/
def countedRun (r : LineRec) (scale : Nat) : Nat := if strays r scale then min 10 (r.devRun + 1) else 0

section

variable {r : LineRec} {scale : Nat}

/-- The run that the model counts at a judged tick. -/
theorem countedRun_eq (r : LineRec) (scale : Nat) :
    (if (r.offset?.map fun d => decide (lineTolerance scale < d)).getD false then satAt 10 (r.devRun + 1) else 0) =
      countedRun r scale := by
  have hstrays : (r.offset?.map fun d => decide (lineTolerance scale < d)).getD false = strays r scale := by
    unfold LineRec.offset? strays
    cases r.readback <;> rfl
  rw [hstrays]
  exact if_congr Iff.rfl (Nat.min_comm ..) rfl

theorem tick_unfitted (h : scale = 0) : r.tick scale = r := if_pos h

theorem tick_young (h : scale ≠ 0) (hage : r.age + 1 < 15) : r.tick scale = { r with age := r.age + 1 } := by
  have hsat : min (r.age + 1) 65535 = r.age + 1 := by omega
  simp [LineRec.tick, h, hage, hsat]

theorem tick_judged (h : scale ≠ 0) (hage : ¬ r.age + 1 < 15) : r.tick scale =
    { r with age := min 65535 (r.age + 1), devRun := countedRun r scale, deviation := countedRun r scale = 10 } := by
  have hsat : ¬ min (r.age + 1) 65535 < 15 := by omega
  refine (if_neg h).trans ((if_neg hsat).trans ?_)
  exact congrArg₂ (fun age run : Nat => { r with age := age, devRun := run, deviation := run = 10 })
    (Nat.min_comm ..) (countedRun_eq { r with age := min (r.age + 1) 65535 } scale)

theorem dueAtTick_judged (h : scale ≠ 0) (hage : ¬ r.age + 1 < 15) :
    (r.tick scale).dueAtTick scale = (decide (countedRun r scale = 10) && !r.raised) := by
  rw [tick_judged h hage]
  have hpos : 0 < scale := by omega
  have hold : 15 ≤ min 65535 (r.age + 1) := by omega
  simp [LineRec.dueAtTick, LineRec.due, hpos, hold]

theorem dueAtTick_young (h : scale ≠ 0) (hage : r.age + 1 < 15) : (r.tick scale).dueAtTick scale = false := by
  rw [tick_young h hage]
  have hyoung : ¬ 15 ≤ r.age + 1 := by omega
  simp [LineRec.dueAtTick, hyoung]

/-- A line after its tick: unfitted, too young to be judged, or judged and marked where its run stands at 10. -/
theorem ticked_eq (r : LineRec) (scale : Nat) : (r.tick scale).raiseAtTick scale =
    if scale = 0 then r
    else if r.age + 1 < 15 then { r with age := r.age + 1 }
    else { r with age := min 65535 (r.age + 1), devRun := countedRun r scale, deviation := countedRun r scale = 10,
                  raised := r.raised || countedRun r scale = 10 } := by
  unfold LineRec.raiseAtTick
  by_cases h : scale = 0
  · simp [h, tick_unfitted, LineRec.dueAtTick]
  · by_cases hage : r.age + 1 < 15
    · rw [dueAtTick_young h hage, tick_young h hage]
      simp [h, hage]
    · rw [dueAtTick_judged h hage, tick_judged h hage]
      simp only [if_neg h, if_neg hage]
      cases hraised : r.raised <;> by_cases hrun : countedRun r scale = 10 <;> simp [hrun]

/-- A tick reports a line that was not raised, is judged and reaches the run of 10 (R98). -/
theorem dueAtTick_tick (r : LineRec) (scale : Nat) : (r.tick scale).dueAtTick scale =
    ((r.raised == false) && (scale != 0) && decide (15 ≤ r.age + 1) &&
      (((r.tick scale).raiseAtTick scale).devRun == 10)) := by
  rw [ticked_eq]
  by_cases h : scale = 0
  · simp [h, LineRec.dueAtTick]
  · by_cases hage : r.age + 1 < 15
    · rw [dueAtTick_young h hage]
      have hyoung : ¬ 15 ≤ r.age + 1 := by omega
      simp [hyoung]
    · rw [dueAtTick_judged h hage]
      have hold : 15 ≤ r.age + 1 := by omega
      have hfitted : (scale != 0) = true := by simpa using h
      simp [h, hage, hold, hfitted, Bool.and_comm, Bool.beq_eq_decide_eq]

theorem lineDetection_tick (t : Tube) (l : GasLine) (r : LineRec) (scale : Nat) : lineDetection t l scale (r.tick scale) =
    .detect (detection t .flowDeviation (some l.code) (r.readback.map fun v => dist v r.command)
      (some (scale * 5 / 100))) := by
  obtain ⟨hcommand, hread⟩ := tick_frame r scale
  simp [lineDetection, LineRec.offset?, hcommand, hread, detection, lineTolerance]

end

section

variable {s n : State} {c : Ctx} {t : Tube} {j k : Task} {ks : List Task}

/-! ### Messages that do nothing -/

/-- A chain of messages each of which does nothing. -/
theorem runTasks_stands (h : ∀ k ∈ ks, handle k c = (c, [])) (n : Nat) : runTasks n ks c = c := by
  induction ks generalizing n with
  | nil => exact runTasks_nil n c
  | cons k ks ih =>
    obtain ⟨hk, hks⟩ := List.forall_mem_cons.1 h
    cases n with
    | zero => rfl
    | succ n =>
      rw [runTasks_cons, hk]
      exact ih hks n

/-- An event of two messages: the first does nothing, and what follows from the second does nothing either. -/
theorem eventOf_pair (hj : handle j (Ctx.start s false) = (Ctx.start s false, []))
    (hk : handle k (Ctx.start s false) = ((Ctx.start s false).put n, ks))
    (hks : ∀ i ∈ ks, handle i (Ctx.start n false) = (Ctx.start n false, [])) : s.eventOf [j, k] = n := by
  have hchain : s.eventOf [j, k] = (runTasks (Config.cascadeBound - 2)
      ((handle k (handle j (Ctx.start s false)).1).2 ++ []) (handle k (handle j (Ctx.start s false)).1).1).s := by
    rw [State.eventOf, State.event]
    show (runTasks (Config.cascadeBound - 1) ((handle j (Ctx.start s false)).2 ++ [k]) _).s = _
    rw [hj]
    rfl
  rw [hchain, hj, hk, List.append_nil]
  exact congrArg Ctx.s (runTasks_stands hks _)

/-! ### The lines and the entry of a tube at its tick (R95, R97, R98, log entry 41) -/

/-- The state once the arbiter has done its own work of a tube's gas tick. -/
def tickedState (s : State) (t : Tube) : State :=
  s.setGas ((s.gas.tick t (s.tubeConfig t).scale).raiseDue t (s.tubeConfig t).scale)

theorem gasTickStart_online (h : c.s.runState t ≠ .offline) : gasTickStart t c =
    (c.put (tickedState c.s t), [.headerWait t] ++
      (c.s.gas.tick t (c.s.tubeConfig t).scale).dueReports t (c.s.tubeConfig t).scale ++ [.atmTick t]) := if_neg h

/-- The lines of a tube after its arbiter's tick. -/
theorem tick_lines (g : Gas) (t : Tube) (scale : Flows) (l : GasLine) :
    ((g.tick t scale).lines.get t).get l = ((g.lines.get t).get l).tick (scale.get l) := by
  cases l <;> simp [Gas.tick, PerLine.get]

/-- The reports of a gas tick: the lines whose run it brings to 10, in their order. -/
theorem dueReports_tick {g : Gas} {scale : Flows} {newly : GasLine → Bool}
    (h : ∀ l, (((g.lines.get t).get l).tick (scale.get l)).dueAtTick (scale.get l) = newly l) :
    (g.tick t scale).dueReports t scale = GasLine.list.flatMap fun l =>
      if newly l then
        [.detect (detection t .flowDeviation (some l.code)
          (((g.lines.get t).get l).readback.map fun v => dist v ((g.lines.get t).get l).command)
          (some (scale.get l * 5 / 100)))]
      else [] := by
  simp only [Gas.dueReports, tick_lines, lineDetection_tick, h]

/-- The gas tick of a tube writes no readback (R87). -/
theorem n2Readback_tickedState (s : State) (t : Tube) :
    (tickedState s t).gas.n2Readback t = ((s.gas.lines.get t).n2.readback).getD 0 := by
  have hread : readback (tickedState s t).gas t .n2 = (s.gas.lines.get t).n2.readback := by
    unfold tickedState readback
    rw [State.setGas_gas, raiseDue_tick, PerTube.get_set_same, tickedLines_get, (raiseAtTick_frame ..).2,
      (tick_frame ..).2]
    rfl
  exact congrArg (·.getD 0) hread

theorem taskHeaderWait_stands (h : ∀ e, c.s.gas.entry? t = some e → c.s.config.bank.waitTimeout = 0 ∨
    e.age ≤ c.s.config.bank.waitTimeout ∨ e.timedOut = true) : taskHeaderWait t c = (c, []) := by
  unfold taskHeaderWait
  dsimp only
  split
  next e he =>
    refine if_neg fun hdue => ?_
    have hwaits := h e he
    obtain ⟨hoverdue, hfresh⟩ := hdue
    simp only [GasEntry.overdue, Bool.and_eq_true, decide_eq_true_iff] at hoverdue
    obtain ⟨hset, hpast⟩ := hoverdue
    obtain hzero | hwithin | hmarked := hwaits
    · simp [hzero] at hset
    · omega
    · simp [hmarked] at hfresh
  next => rfl

/-- A tube's entry after the tick is an entry of the queue before it, one second older. -/
theorem entry?_tickedState {e : GasEntry} (h : (tickedState s t).gas.entry? t = some e) :
    ∃ e₀ ∈ s.gas.queue, e₀.tube = t ∧ e = { e₀ with age := satAt 65535 (e₀.age + 1) } := by
  rw [tickedState, State.setGas_gas, raiseDue_tick] at h
  have hmem := List.mem_of_find?_eq_some h
  have htube : e.tube = t := by simpa using List.find?_some h
  obtain ⟨e₀, he₀, rfl⟩ := List.mem_map.1 hmem
  dsimp only at htube ⊢
  split at htube
  next hown => exact ⟨e₀, he₀, hown, by rw [if_pos hown]⟩
  next hother => exact absurd htube hother

/-! ### The atmosphere controller at the tick (R107 to R110, R115) -/

theorem taskAtmTick_purge (hon : c.s.runState t ≠ .offline) (h : (c.s.atm.get t).state = .purge) : taskAtmTick t c =
    (c.put (c.s.setAtm t ((c.s.atm.get t).integrate (c.s.gas.n2Readback t))),
      [.purgeComplete t, .purgeIncomplete t]) := by
  simp [taskAtmTick, hon, h]

theorem taskAtmTick_stands (hon : c.s.runState t ≠ .offline) (h : (c.s.atm.get t).state = .stable ∨
      (c.s.atm.get t).state = .waitHeader ∨ (c.s.atm.get t).state = .lit ∨ (c.s.atm.get t).state = .safeFlow) :
    taskAtmTick t c = (c, []) := by
  obtain h | h | h | h := h <;> simp [taskAtmTick, hon, h]

/-- The record of a controller whose phase timer counts one tick. -/
def aged (a : AtmRec) : AtmRec := { a with phaseTimer := min 65535 (a.phaseTimer + 1) }

theorem taskAtmTick_timer (hon : c.s.runState t ≠ .offline) :
    ((c.s.atm.get t).state = .preflow →
      taskAtmTick t c = (c.put (c.s.setAtm t (aged (c.s.atm.get t))), [.ignitionTest t])) ∧
    ((c.s.atm.get t).state = .ignite →
      taskAtmTick t c = (c.put (c.s.setAtm t (aged (c.s.atm.get t))), [.ignitionFailed t])) ∧
    ((c.s.atm.get t).state = .extinguish →
      taskAtmTick t c = (c.put (c.s.setAtm t (aged (c.s.atm.get t))), [.postFlowEnd t])) := by
  refine ⟨fun h => ?_, fun h => ?_, fun h => ?_⟩ <;> simp [taskAtmTick, hon, h, aged, Nat.min_comm 65535]

theorem integrate_eq (a : AtmRec) (q : Nat) : a.integrate q = { a with
    purgeTimer := min 65535 (a.purgeTimer + 1)
    purgeVolume := min 4294967295 (a.purgeVolume + (a.purgeRemainder + q) / 60)
    purgeRemainder := (a.purgeRemainder + q) % 60 } := by
  simp only [AtmRec.integrate, Nat.min_comm 65535, Nat.min_comm 4294967295]

theorem taskPurgeComplete_stands {b : AtmRec} (hb : c.s.atm.get t = b) (h : b.purgeVolume < b.purgeTarget) :
    taskPurgeComplete t c = (c, []) := by
  subst hb
  exact if_neg fun hfull => by omega

theorem taskPurgeIncomplete_stands {b : AtmRec} (hb : c.s.atm.get t = b)
    (h : b.purgeTimer < b.purgeLimit ∨ b.incomplete = true) : taskPurgeIncomplete t c = (c, []) := by
  subst hb
  refine if_neg fun hdue => ?_
  obtain ⟨-, -, hlate, hfresh⟩ := hdue
  obtain hearly | hmarked := h
  · omega
  · simp [hmarked] at hfresh

theorem ignites_of_waiting {b : AtmRec} (hb : s.atm.get t = b)
    (h : b.phaseTimer < (s.tubeConfig t).preflowTime ∨ b.awaited ≠ none ∨ b.flame = true) : s.ignites t = false := by
  subst hb
  refine Bool.eq_false_iff.2 fun hignites => ?_
  simp only [State.ignites, Bool.and_eq_true, decide_eq_true_iff, Option.isNone_iff_eq_none, Bool.not_eq_true']
    at hignites
  obtain ⟨⟨⟨⟨-, hfree⟩, hlong⟩, -⟩, hdark⟩ := hignites
  obtain hshort | hawaits | hflame := h
  · omega
  · exact hawaits hfree
  · simp [hflame] at hdark

theorem taskIgnitionFailed_stands {b : AtmRec} (hb : c.s.atm.get t = b)
    (h : b.phaseTimer < (c.s.tubeConfig t).ignitionTimeout) : taskIgnitionFailed t c = (c, []) := by
  subst hb
  exact if_neg fun hfailed => by omega

theorem taskPostFlowEnd_stands {b : AtmRec} (hb : c.s.atm.get t = b)
    (h : b.phaseTimer < (c.s.tubeConfig t).postFlowTime) : taskPostFlowEnd t c = (c, []) := by
  subst hb
  exact if_neg fun hended => by omega

/-! ### The row -/

theorem exec_gasTick_offline (hreset : s.inReset = false) (hoff : s.runState t = .offline) :
    exec (.gasTick t) s = .next s := by
  have hstands : gasTickStart t (Ctx.start s false) = (Ctx.start s false, []) := if_pos hoff
  refine (State.act_eq hreset fun s => s.event (gasTickStart t)).trans (congrArg _ ?_)
  rw [State.event, hstands, runTasks_nil]
  rfl

theorem exec_gasTick (hreset : s.inReset = false) (hon : s.runState t ≠ .offline) : exec (.gasTick t) s =
    .next ((tickedState s t).eventOf ([.headerWait t] ++
      (s.gas.tick t (s.tubeConfig t).scale).dueReports t (s.tubeConfig t).scale ++ [.atmTick t])) := by
  have hstart := gasTickStart_online (c := Ctx.start s false) (t := t) hon
  refine (State.act_eq hreset fun s => s.event (gasTickStart t)).trans (congrArg _ ?_)
  rw [State.event, hstart]
  rfl

/-- A gas tick at which no line is reported and no entry is past its wait: the atmosphere controller's work is all. -/
theorem exec_gasTick_quiet (hreset : s.inReset = false) (hon : s.runState t ≠ .offline)
    (hlines : (s.gas.tick t (s.tubeConfig t).scale).dueReports t (s.tubeConfig t).scale = [])
    (hentries : ∀ e ∈ s.gas.queue, e.tube = t → s.config.bank.waitTimeout = 0 ∨
      min 65535 (e.age + 1) ≤ s.config.bank.waitTimeout ∨ e.timedOut = true)
    (htick : taskAtmTick t (Ctx.start (tickedState s t) false) = ((Ctx.start (tickedState s t) false).put n, ks))
    (hks : ∀ k ∈ ks, handle k (Ctx.start n false) = (Ctx.start n false, [])) : exec (.gasTick t) s = .next n := by
  have hwait : taskHeaderWait t (Ctx.start (tickedState s t) false) = (Ctx.start (tickedState s t) false, []) := by
    refine taskHeaderWait_stands fun e he => ?_
    obtain ⟨e₀, hmem, htube, rfl⟩ := entry?_tickedState he
    rw [satAt, Nat.min_comm]
    exact hentries e₀ hmem htube
  rw [exec_gasTick hreset hon, hlines]
  exact congrArg _ (eventOf_pair hwait htick hks)

end

end Sys2Proof.GasTicks

/-! SUPPORT. The row ADMITTED: the head of the gas wait queue admitted, and the messages that follow it for a tube whose run
controller does not walk (R92, R102, R106, R110, R125). With it the three rows of O47 are settled. -/

namespace Sys2Proof.GasRows

open Sys2Proof.Machine Sys2Proof.ZoneControl Sys2Proof.GasRules Sys2Proof.GasInvariants Sys2Proof.GasEvents
  Sys2Proof.GasPaths Sys2Proof.GasReadbacks Sys2Proof.GasTicks

section

variable {s n : State} {c : Ctx} {t : Tube} {k : Task} {ks : List Task} {e : GasEntry} {p : Phase}

/-! ### What follows an admission -/

/-- A message that an admission for the tube gives, while no further admission and no ignition follows. -/
def follows (t : Tube) : Task → Bool
  | .atmReport u | .ignitionTest u | .moveStart u | .boatReport u | .evaluate u => u = t
  | .examine => true
  | _ => false

/-- The gas supply and the fault block stand as the admission left them, and the tube's run controller does not walk. -/
structure Landed (n : State) (t : Tube) (m : State) : Prop where
  same : SameGas n m
  faults : m.faults = n.faults
  rests : (m.runState t).walks = false

/-- What an admission leaves so that nothing of the gas supply follows: an empty queue and no ignition change due. -/
structure Settled (n : State) (t : Tube) : Prop where
  queue : n.gas.queue = []
  ignites : (n.atm.get t).state ≠ .preflow ∨ (n.atm.get t).phaseTimer < (n.tubeConfig t).preflowTime

theorem Settled.ignitionTest (h : Settled n t) (hc : Landed n t c.s) : taskIgnitionTest t c = (c, []) := by
  have hatm : c.s.atm.get t = n.atm.get t := by rw [hc.same.atm]
  obtain hstate | htimer := h.ignites
  · exact taskIgnitionTest_stands (ignites_of_state (by rw [hatm]; exact hstate))
  · refine taskIgnitionTest_stands (ignites_of_waiting hatm (.inl ?_))
    unfold State.tubeConfig
    rw [hc.same.config]
    exact htimer

theorem taskEvaluate_rests (h : (c.s.runState t).walks = false) : taskEvaluate t c = (c, []) := by
  have hrun : (c.s.run.get t).state.walks = false := h
  unfold taskEvaluate
  dsimp only
  split <;> simp [hrun]

theorem follows_putBoat (t : Tube) (b : BoatRec) (c : Ctx) : ∀ j ∈ (putBoat t b c).2, follows t j = true := by
  unfold putBoat
  dsimp only
  split <;> simp [follows]

/-- Each such message leaves the gas supply and the fault block, and gives such messages alone. -/
theorem handle_landed (hn : Settled n t) (hk : follows t k = true) (hc : Landed n t c.s) :
    Landed n t (handle k c).1.s ∧ ∀ j ∈ (handle k c).2, follows t j = true := by
  have hstands : ∀ r : Ctx × List Task, r = (c, []) → Landed n t r.1.s ∧ ∀ j ∈ r.2, follows t j = true := by
    rintro _ rfl
    exact ⟨hc, by simp⟩
  have hsame := hc.same
  cases k with
  | evaluate u =>
    obtain rfl : u = t := by simpa [follows] using hk
    exact hstands _ (taskEvaluate_rests hc.rests)
  | ignitionTest u =>
    obtain rfl : u = t := by simpa [follows] using hk
    exact hstands _ (hn.ignitionTest hc)
  | examine => exact hstands _ (taskExamine_empty (by rw [hsame.gas]; exact hn.queue))
  | atmReport u =>
    obtain rfl : u = t := by simpa [follows] using hk
    refine ⟨⟨hsame.trans ⟨rfl, rfl, rfl⟩, hc.faults, ?_⟩, ?_⟩
    · simpa [handle, taskAtmReport, State.runState] using hc.rests
    · simp only [handle, taskAtmReport]
      split <;> simp [follows]
  | boatReport u =>
    obtain rfl : u = t := by simpa [follows] using hk
    refine ⟨⟨hsame.trans ⟨rfl, rfl, rfl⟩, hc.faults, ?_⟩, ?_⟩
    · simpa [handle, taskBoatReport, State.runState] using hc.rests
    · simp only [handle, taskBoatReport]
      split <;> simp [follows]
  | moveStart u =>
    obtain rfl : u = t := by simpa [follows] using hk
    simp only [handle, taskMoveStart]
    split
    · exact ⟨⟨hsame.trans ⟨rfl, rfl, rfl⟩, hc.faults, hc.rests⟩, follows_putBoat u _ c⟩
    · exact ⟨hc, by simp⟩
  | _ => simp [follows] at hk

theorem runTasks_landed (hn : Settled n t) (hks : ∀ k ∈ ks, follows t k = true) (hc : Landed n t c.s) (m : Nat) :
    Landed n t (runTasks m ks c).s := by
  obtain ⟨_, hland, -⟩ := runTasks_keeps_with (P := fun c ks => Landed n t c.s ∧ ∀ k ∈ ks, follows t k = true)
    (fun k ks c ⟨hc, hall⟩ => by
      obtain ⟨hk, hks⟩ := List.forall_mem_cons.1 hall
      obtain ⟨hnext, hnew⟩ := handle_landed hn hk hc
      exact ⟨hnext, fun j hj => (List.mem_append.1 hj).elim (hnew j) (hks j)⟩) m ks c ⟨hc, hks⟩
  exact hland

/-! ### The row ADMITTED (R92) -/

theorem exec_admitted (hreset : s.inReset = false) : exec .admitted s = .next (s.eventOf [.examine]) :=
  State.act_eq hreset fun s => s.eventOf [.examine]

theorem admitHead_fails {rest : List GasEntry} (hqueue : s.gas.queue = e :: rest)
    (hfails : s.gas.passes s.config.bank.headers e.tube e.flows = false) :
    s.gas.admitHead s.config.bank.headers = none := by
  simp [Gas.admitHead, hqueue, hfails]

theorem taskExamine_stands (h : c.s.gas.admitHead c.s.config.bank.headers = none) : taskExamine c = (c, []) := by
  simp [taskExamine, h]

theorem follows_atmTasks (t : Tube) (a b : AtmRec) : ∀ k ∈ atmTasks t a b [] ++ [.examine], follows t k = true := by
  unfold atmTasks
  split <;> split <;> simp [follows]

/-- The arbiter's records once a lone head has been admitted. -/
def admittedGas (g : Gas) (e : GasEntry) : Gas := Gas.grant { g with queue := [] } e.tube e.flows

/-- The state once a lone head has been admitted and its tube has entered the awaited phase. -/
def admittedState (s : State) (e : GasEntry) (p : Phase) : State :=
  (s.setGas (admittedGas s.gas e)).setAtm e.tube ((s.atm.get e.tube).land (s.tubeConfig e.tube) p e.flows)

theorem taskExamine_lone (hqueue : c.s.gas.queue = [e])
    (hpasses : c.s.gas.passes c.s.config.bank.headers e.tube e.flows = true)
    (hawaited : (c.s.atm.get e.tube).awaited = some p) : taskExamine c = (c.put (admittedState c.s e p),
      atmTasks e.tube (c.s.atm.get e.tube) ((c.s.atm.get e.tube).land (c.s.tubeConfig e.tube) p e.flows) [] ++
        [.examine]) := by
  have hadmit : c.s.gas.admitHead c.s.config.bank.headers = some (admittedGas c.s.gas e, e.tube) := by
    simp [Gas.admitHead, hqueue, hpasses, admittedGas]
  have hcommands : (admittedGas c.s.gas e).commands e.tube = e.flows := Gas.grant_commands_same ..
  simp only [taskExamine, hadmit, hawaited, hcommands]
  rfl

/-- The admitted tube holds its flows; the other tubes' grants and commands stand. -/
theorem admittedGas_spec (g : Gas) (e : GasEntry) : (admittedGas g e).queue = [] ∧
    (admittedGas g e).granted.get e.tube = e.flows ∧ (admittedGas g e).commands e.tube = e.flows ∧
    ∀ u, u ≠ e.tube →
      (admittedGas g e).granted.get u = g.granted.get u ∧ (admittedGas g e).commands u = g.commands u := by
  have hsupply := supply_grant { g with queue := [] } e.tube e.flows
  have honly := tubeOnly_grant { g with queue := [] } e.tube e.flows
  exact ⟨rfl, congrArg Supply.granted hsupply, congrArg Supply.commands hsupply,
    fun u hu => ⟨honly.granted hu, honly.commands hu⟩⟩

theorem admittedState_atm (s : State) (e : GasEntry) (p : Phase) : (admittedState s e p).atm.get e.tube =
    (s.atm.get e.tube).land (s.tubeConfig e.tube) p e.flows := PerTube.get_set_same ..

theorem settled_admitted (h : p = .preflow →
      (s.atm.get e.tube).state ≠ .preflow ∧ 1 ≤ (s.tubeConfig e.tube).preflowTime) :
    Settled (admittedState s e p) e.tube where
  queue := rfl
  ignites := by
    rw [admittedState_atm, land_state]
    by_cases hp : p = .preflow
    · subst hp
      obtain ⟨hstate, htime⟩ := h rfl
      exact .inr (by rw [land_preflow_phaseTimer hstate]; exact htime)
    · exact .inl (by cases p <;> simp_all [Phase.state])

/-- The event of ADMITTED after a lone head of a tube that does not walk. -/
theorem admitted_landed (hqueue : s.gas.queue = [e])
    (hpasses : s.gas.passes s.config.bank.headers e.tube e.flows = true)
    (hawaited : (s.atm.get e.tube).awaited = some p)
    (hpreflow : p = .preflow → (s.atm.get e.tube).state ≠ .preflow ∧ 1 ≤ (s.tubeConfig e.tube).preflowTime)
    (hrests : (s.runState e.tube).walks = false) :
    Landed (admittedState s e p) e.tube (s.eventOf [.examine]) := by
  have hexamine := taskExamine_lone (c := Ctx.start s false) hqueue hpasses hawaited
  rw [eventOf_acts (k := .examine) hexamine]
  exact runTasks_landed (c := Ctx.start (admittedState s e p) false) (settled_admitted hpreflow)
    (follows_atmTasks e.tube _ _) ⟨.refl _, rfl, hrests⟩ _

end

/-! ### O47 -/

theorem walks_of_rests {rs : RunState} (h : rs = .idle ∨ rs = .holding) : rs.walks = false := by
  obtain rfl | rfl := h <;> rfl

/-- Settles O47: the three rows, each by the equations of its own part. -/
theorem gasRowsOfTheArbiter : Obligations.GasRowsOfTheArbiter := by
  refine ⟨fun s t l v hreset => ?_, fun s t hreset => ?_, fun s hreset => ?_⟩
  · intro line read b low starts
    have hread : s.setGas (s.gas.writeReadback t l v) = read := by rw [writeReadback_eq]
    have hstarts : b.canStart { s.boatEnv t with n2 := min 65535 v } = true ↔ starts := canStart_iff s t (min 65535 v)
    rw [← hread]
    refine ⟨⟨_, exec_flowReadback hreset, readback_flowReadback s t l v⟩, exec_flowReadback_stands hreset,
      fun hl hb => ⟨fun hlow => ?_, fun hlow hhold => ?_⟩,
      fun hl hb => ⟨fun hlow => ?_, fun hlow hhold => ?_, fun hlow hhold => ?_⟩,
      fun hl hb => ⟨fun hstart => ?_, fun hstart hopen => ?_, fun hstart hshut hlimit => ?_,
        fun x hstart hshut hlimit htarget hpos => ?_⟩⟩
    · exact exec_flowReadback_moves hreset hl (nitrogen_travel_low hb hlow) (hb.trans_ne (by simp))
    · exact exec_flowReadback_keeps hreset hl (nitrogen_travel_enough hb hlow hhold) rfl rfl
    · exact exec_flowReadback_keeps hreset hl (nitrogen_paused_low hb hlow) rfl rfl
    · exact exec_flowReadback_keeps hreset hl (nitrogen_paused_held hb hlow hhold) rfl rfl
    · exact exec_flowReadback_moves hreset hl (nitrogen_paused_resumes hb hlow hhold) (hb.trans_ne (by simp))
    · exact exec_flowReadback_keeps hreset hl (nitrogen_waiting_stands hb (mt hstarts.1 hstart)) rfl rfl
    · exact exec_flowReadback_moves hreset hl (nitrogen_waiting_open hb (hstarts.2 hstart) hopen)
        (hb.trans_ne (by simp))
    · exact exec_flowReadback_moves hreset hl (nitrogen_waiting_opens hb (hstarts.2 hstart) hshut hlimit)
        (hb.trans_ne (by simp))
    · exact exec_flowReadback_moves hreset hl (nitrogen_waiting_opened hb (hstarts.2 hstart) hshut hlimit htarget hpos)
        (hb.trans_ne (by simp))
  · intro cfg a ls far ticked newly counted quiet q purged older
    have hticked : ∀ r scale, (r.tick scale).raiseAtTick scale = ticked r scale := ticked_eq
    have hnewly : ∀ l, ((ls.get l).tick (cfg.scale.get l)).dueAtTick (cfg.scale.get l) = newly l := fun l => by
      rw [dueAtTick_tick, hticked]
    have hcounted : tickedState s t = counted := by
      rw [tickedState, raiseDue_tick]
      simp only [mapEntries, tickedLines, hticked, Nat.min_comm _ 65535]
      rfl
    have hreports := dueReports_tick hnewly
    have hatm : ∀ r, (counted.setAtm t r).atm.get t = r := fun _ => PerTube.get_set_same ..
    have hquiet : ∀ {n ks}, s.runState t ≠ .offline → quiet →
        taskAtmTick t (Ctx.start counted false) = ((Ctx.start counted false).put n, ks) →
        (∀ k ∈ ks, handle k (Ctx.start n false) = (Ctx.start n false, [])) → exec (.gasTick t) s = .next n := by
      intro n ks hon hq htick hks
      rw [← hcounted] at htick
      exact exec_gasTick_quiet hreset hon (hreports.trans (by simp [hq.1])) hq.2 htick hks
    refine ⟨exec_gasTick_offline hreset, fun hon => ⟨?_, fun hq => ?_⟩, fun c hc hon => ?_⟩
    · rw [exec_gasTick hreset hon, hreports, hcounted]
      rfl
    · obtain ⟨hpreflow, hignite, hextinguish⟩ := taskAtmTick_timer (c := Ctx.start counted false) (t := t) hon
      refine ⟨fun hst => ?_, fun hst hvol htime => ?_, fun hst hwaits => hquiet hon hq (hpreflow hst) ?_,
        fun hst htime => hquiet hon hq (hignite hst) ?_, fun hst htime => hquiet hon hq (hextinguish hst) ?_⟩
      · exact hquiet hon hq (taskAtmTick_stands (c := Ctx.start counted false) hon hst) (List.forall_mem_nil _)
      · have hread : counted.gas.n2Readback t = q := by
          rw [← hcounted]
          exact n2Readback_tickedState s t
        have htick := taskAtmTick_purge (c := Ctx.start counted false) hon hst
        rw [Ctx.start_s, hread, integrate_eq] at htick
        exact hquiet hon hq htick (List.forall_mem_cons.2 ⟨taskPurgeComplete_stands (hatm purged) hvol,
          List.forall_mem_singleton.2 (taskPurgeIncomplete_stands (hatm purged) htime)⟩)
      · exact List.forall_mem_singleton.2 (taskIgnitionTest_stands (ignites_of_waiting (hatm older) hwaits))
      · exact List.forall_mem_singleton.2 (taskIgnitionFailed_stands (hatm older) htime)
      · exact List.forall_mem_singleton.2 (taskPostFlowEnd_stands (hatm older) htime)
    · subst hc
      obtain ⟨hpreflow, hignite, hextinguish⟩ := taskAtmTick_timer (c := c) (t := t) hon
      refine ⟨fun hst => ?_, hpreflow, hignite, hextinguish, taskAtmTick_stands hon⟩
      rw [taskAtmTick_purge hon hst, integrate_eq]
      rfl
  · refine ⟨fun hqueue => ?_, fun e rest hqueue hfails => ?_, fun e p hqueue hpasses hawaited hpreflow hrests => ?_⟩
    · exact (exec_admitted hreset).trans (congrArg _ (eventOf_stands (taskExamine_empty hqueue)))
    · exact (exec_admitted hreset).trans
        (congrArg _ (eventOf_stands (taskExamine_stands (admitHead_fails hqueue hfails))))
    · obtain ⟨⟨hgas, hatm, -⟩, hfaults, -⟩ := admitted_landed hqueue hpasses hawaited hpreflow (walks_of_rests hrests)
      obtain ⟨hempty, hgranted, hcommands, hothers⟩ := admittedGas_spec s.gas e
      refine ⟨_, exec_admitted hreset, ?_⟩
      rw [hgas, hatm, hfaults, admittedState_atm]
      exact ⟨hempty, hgranted, hcommands, land_state .., land_awaited .., land_inForce .., rfl, hothers⟩

end Sys2Proof.GasRows

/-! SUPPORT. A change of flows that is applied at once, with the messages that follow it: in a tube that rests, or that the gas
view does not move, they leave what the change has put in force. With it the rows PURGE_COMPLETE, IGNITION_CHANGE and
POST_FLOW_END are settled (R91, R102, R106, R108 to R110, R115, R125). -/

namespace Sys2Proof.TorchChanges

open Sys2Proof.Machine Sys2Proof.ZoneControl Sys2Proof.GasRules Sys2Proof.GasInvariants Sys2Proof.GasEvents
  Sys2Proof.GasPaths Sys2Proof.GasTicks Sys2Proof.GasRows

section

variable {s n : State} {c : Ctx} {t : Tube} {k : Task} {ks : List Task} {f : Flows} {p : Phase} {origin : WaitOrigin}

/-! ### A change past an empty queue (R89, R91) -/

/-- A change that the arbiter applies at once, whether it is a lowering or a raising: nothing waits, and it passes the
admission test. -/
structure Fits (s : State) (t : Tube) (f : Flows) : Prop where
  queue : s.gas.queue = []
  passes : s.gas.passes s.config.bank.headers t f = true

theorem Fits.submit (h : Fits s t f) :
    let r := s.gas.submit s.config.bank.headers t f
    r.2.1 = .applied ∧ r.1.queue = [] ∧ r.1.commands t = f := by
  cases hlow : s.gas.isLowering t f with
  | true =>
    rw [submit_of_lowering hlow]
    exact ⟨rfl, by simp [Gas.removeEntry, h.queue], Gas.grant_commands_same ..⟩
  | false =>
    rw [submit_of_fit hlow h.queue h.passes]
    exact ⟨rfl, h.queue, Gas.grant_commands_same ..⟩

/-- The state once a change has been applied and its tube has entered the phase it leads to. -/
def changedState (s : State) (t : Tube) (f : Flows) (p : Phase) : State :=
  (s.setGas (s.gas.submit s.config.bank.headers t f).1).setAtm t ((s.atm.get t).land (s.tubeConfig t) p f)

/-- The messages that follow a change that has been applied. -/
def changeTasks (s : State) (t : Tube) (f : Flows) (p : Phase) : List Task :=
  atmTasks t (s.atm.get t) ((s.atm.get t).land (s.tubeConfig t) p f)
    (if (s.gas.submit s.config.bank.headers t f).2.2 then [.examine] else [])

theorem changedState_atm (s : State) (t : Tube) (f : Flows) (p : Phase) :
    (changedState s t f p).atm.get t = (s.atm.get t).land (s.tubeConfig t) p f := PerTube.get_set_same ..

theorem submitChange_fits (h : Fits c.s t f) :
    submitChange t f p origin c = (c.put (changedState c.s t f p), changeTasks c.s t f p) := by
  obtain ⟨happlied, -, hcommands⟩ := h.submit
  simp only [submitChange, happlied, hcommands]
  rfl

/-! ### The messages that follow a change (R102, R106, R110) -/

/-- A message that a change of flows of the tube gives. -/
def ofChange (t : Tube) : Task → Bool
  | .atmReport u | .ignitionTest u | .moveStart u => u = t
  | .examine => true
  | _ => false

theorem follows_of_ofChange (h : ofChange t k = true) : follows t k = true := by
  cases k <;> simp_all [ofChange, follows]

theorem ofChange_changeTasks (s : State) (t : Tube) (f : Flows) (p : Phase) :
    ∀ k ∈ changeTasks s t f p, ofChange t k = true := by
  intro k hk
  simp only [changeTasks, atmTasks, List.mem_append, List.mem_singleton] at hk
  obtain ((rfl | hk) | hk) | hk := hk
  · simp [ofChange]
  all_goals
    split at hk
    all_goals simp_all [ofChange]

/-- The gas supply and the fault block stand as a change left them, the gas view is not met and the boat cannot start:
the tube's neighbours have nothing to do. -/
structure Hushed (n : State) (t : Tube) (m : State) : Prop where
  same : SameGas n m
  faults : m.faults = n.faults
  view : (m.run.get t).gasView = false
  boat : (n.atm.get t).state.torch = true ∨ (m.boat.get t).state ≠ .waitCond

theorem taskIgnitionTest_settled (h : Settled n t) (hc : SameGas n c.s) : taskIgnitionTest t c = (c, []) := by
  have hatm : c.s.atm.get t = n.atm.get t := by rw [hc.atm]
  obtain hstate | htimer := h.ignites
  · exact taskIgnitionTest_stands (ignites_of_state (by rw [hatm]; exact hstate))
  · refine taskIgnitionTest_stands (ignites_of_waiting hatm (.inl ?_))
    unfold State.tubeConfig
    rw [hc.config]
    exact htimer

/-- A report that leaves the gas view not met. -/
theorem taskAtmReport_unmet (h : (c.s.atm.get t).view = false) (hview : (c.s.run.get t).gasView = false) :
    taskAtmReport t c = (c, []) := by
  have hrun : { c.s.run.get t with gasView := false } = c.s.run.get t := by rw [← hview]
  have hset : c.s.setRun t (c.s.run.get t) = c.s := by simp [State.setRun]
  simp only [taskAtmReport, h, hview, hrun, hset]
  rfl

/-- Beside a torch that is prepared or burns a waiting boat waits on (R125). -/
theorem judgeStart_torch {b : BoatRec} {e : BoatEnv} (h : e.torch = true) :
    b.judgeStart e = { b with state := .waitCond, speedCmd := 0 } := if_neg (by simp [BoatRec.canStart, h])

theorem taskMoveStart_torch (h : (c.s.atm.get t).state.torch = true) (hb : (c.s.boat.get t).state = .waitCond) :
    taskMoveStart t c = (c.put (c.s.setBoat t { c.s.boat.get t with state := .waitCond, speedCmd := 0 }), []) := by
  have hjudge : (c.s.boat.get t).judgeStart (c.s.boatEnv t) = _ := judgeStart_torch h
  simp only [taskMoveStart, hb, if_true, hjudge, putBoat, and_self]

theorem handle_hushed (hn : Settled n t) (hunmet : (n.atm.get t).view = false) (hk : ofChange t k = true)
    (hc : Hushed n t c.s) : Hushed n t (handle k c).1.s ∧ (handle k c).2 = [] := by
  have hstands : ∀ r : Ctx × List Task, r = (c, []) → Hushed n t r.1.s ∧ r.2 = [] := by
    rintro _ rfl
    exact ⟨hc, rfl⟩
  have hatm : c.s.atm.get t = n.atm.get t := by rw [hc.same.atm]
  cases k with
  | atmReport u =>
    obtain rfl : u = t := by simpa [ofChange] using hk
    exact hstands _ (taskAtmReport_unmet (by rw [hatm]; exact hunmet) hc.view)
  | ignitionTest u =>
    obtain rfl : u = t := by simpa [ofChange] using hk
    exact hstands _ (taskIgnitionTest_settled hn hc.same)
  | examine => exact hstands _ (taskExamine_empty (by rw [hc.same.gas]; exact hn.queue))
  | moveStart u =>
    obtain rfl : u = t := by simpa [ofChange] using hk
    by_cases hb : (c.s.boat.get u).state = .waitCond
    · have htorch := hc.boat.resolve_right fun hno => hno hb
      have hmove : handle (.moveStart u) c = _ := taskMoveStart_torch (by rw [hatm]; exact htorch) hb
      rw [hmove]
      exact ⟨⟨hc.same.trans ⟨rfl, rfl, rfl⟩, hc.faults, hc.view, .inl htorch⟩, rfl⟩
    · exact hstands (taskMoveStart u c) (if_neg hb)
  | _ => simp [ofChange] at hk

theorem runTasks_hushed (hn : Settled n t) (hunmet : (n.atm.get t).view = false)
    (hks : ∀ k ∈ ks, ofChange t k = true) (hc : Hushed n t c.s) (m : Nat) : Hushed n t (runTasks m ks c).s := by
  obtain ⟨_, hhushed, -⟩ := runTasks_keeps_with (P := fun c ks => Hushed n t c.s ∧ ∀ k ∈ ks, ofChange t k = true)
    (fun k ks c ⟨hc, hall⟩ => by
      obtain ⟨hk, hks⟩ := List.forall_mem_cons.1 hall
      obtain ⟨hnext, hnone⟩ := handle_hushed hn hunmet hk hc
      rw [hnone]
      exact ⟨hnext, hks⟩) m ks c ⟨hc, hks⟩
  exact hhushed

/-! ### What a change leaves once its event is over -/

/-- A change of the tube is in force: its flows are commanded, its phase is entered, no fault has been recorded. -/
structure InForce (s : State) (t : Tube) (f : Flows) (p : Phase) (m : State) : Prop where
  commands : m.gas.commands t = f
  atm : m.atm.get t = (s.atm.get t).land (s.tubeConfig t) p f
  faults : m.faults = s.faults

theorem inForce_of_same {m : State} (h : Fits s t f) (hsame : SameGas (changedState s t f p) m)
    (hfaults : m.faults = (changedState s t f p).faults) : InForce s t f p m := by
  obtain ⟨-, -, hcommands⟩ := h.submit
  exact ⟨by rw [hsame.gas]; exact hcommands, by rw [hsame.atm]; exact changedState_atm .., hfaults⟩

/-- A preflow that a change enters has its whole time before it. -/
theorem settled_changed (h : Fits s t f)
    (hpreflow : p = .preflow → (s.atm.get t).state ≠ .preflow ∧ 1 ≤ (s.tubeConfig t).preflowTime) :
    Settled (changedState s t f p) t where
  queue := h.submit.2.1
  ignites := by
    rw [changedState_atm, land_state]
    by_cases hp : p = .preflow
    · subst hp
      obtain ⟨hstate, htime⟩ := hpreflow rfl
      exact .inr (by rw [land_preflow_phaseTimer hstate]; exact htime)
    · exact .inl (by cases p <;> simp_all [Phase.state])

/-- The messages after a change of a tube whose run controller does not walk. -/
theorem inForce_rests (h : Fits s t f)
    (hpreflow : p = .preflow → (s.atm.get t).state ≠ .preflow ∧ 1 ≤ (s.tubeConfig t).preflowTime)
    (hrests : (s.runState t).walks = false) (m : Nat) :
    InForce s t f p (runTasks m (changeTasks s t f p) (Ctx.start (changedState s t f p) false)).s := by
  obtain ⟨hsame, hfaults, -⟩ := runTasks_landed (c := Ctx.start (changedState s t f p) false)
    (settled_changed h hpreflow) (fun k hk => follows_of_ofChange (ofChange_changeTasks s t f p k hk))
    ⟨.refl _, rfl, hrests⟩ m
  exact inForce_of_same h hsame hfaults

/-- The messages after a change to a phase in which the gas view is not met, as it was not before. -/
theorem inForce_hushed (h : Fits s t f)
    (hpreflow : p = .preflow → (s.atm.get t).state ≠ .preflow ∧ 1 ≤ (s.tubeConfig t).preflowTime)
    (hphase : p = .preflow ∨ p = .ignite ∨ p = .purge ∧ (s.boat.get t).state ≠ .waitCond)
    (hview : (s.run.get t).gasView = false) (m : Nat) :
    InForce s t f p (runTasks m (changeTasks s t f p) (Ctx.start (changedState s t f p) false)).s := by
  have hstate : ((changedState s t f p).atm.get t).state = p.state := by rw [changedState_atm, land_state]
  have hunmet : ((changedState s t f p).atm.get t).view = false := by
    rw [AtmRec.view, hstate]
    obtain rfl | rfl | ⟨rfl, -⟩ := hphase <;> simp [Phase.state]
  have hboat : ((changedState s t f p).atm.get t).state.torch = true ∨ (s.boat.get t).state ≠ .waitCond := by
    rw [hstate]
    obtain rfl | rfl | ⟨-, hboat⟩ := hphase
    · exact .inl rfl
    · exact .inl rfl
    · exact .inr hboat
  obtain ⟨hsame, hfaults, -⟩ := runTasks_hushed (c := Ctx.start (changedState s t f p) false)
    (settled_changed h hpreflow) hunmet (ofChange_changeTasks s t f p) ⟨.refl _, rfl, hview, hboat⟩ m
  exact inForce_of_same h hsame hfaults

/-- A row whose message writes `n` and then submits a change that fits. -/
theorem eventOf_change (hk : handle k (Ctx.start s false) = submitChange t f p origin (Ctx.start n false))
    (h : Fits n t f) : s.eventOf [k] = (changedState n t f p).after (changeTasks n t f p) :=
  eventOf_acts (hk.trans (submitChange_fits (c := Ctx.start n false) h))

theorem eventOf_rests (hk : handle k (Ctx.start s false) = submitChange t f p origin (Ctx.start n false))
    (h : Fits n t f) (hpreflow : p = .preflow → (n.atm.get t).state ≠ .preflow ∧ 1 ≤ (n.tubeConfig t).preflowTime)
    (hrests : (n.runState t).walks = false) : InForce n t f p (s.eventOf [k]) := by
  rw [eventOf_change hk h]
  exact inForce_rests h hpreflow hrests _

theorem eventOf_hushed (hk : handle k (Ctx.start s false) = submitChange t f p origin (Ctx.start n false))
    (h : Fits n t f) (hpreflow : p = .preflow → (n.atm.get t).state ≠ .preflow ∧ 1 ≤ (n.tubeConfig t).preflowTime)
    (hphase : p = .preflow ∨ p = .ignite ∨ p = .purge ∧ (n.boat.get t).state ≠ .waitCond)
    (hview : (n.run.get t).gasView = false) : InForce n t f p (s.eventOf [k]) := by
  rw [eventOf_change hk h]
  exact inForce_hushed h hpreflow hphase hview _

/-! ### The three rows (R109, R110, R115) -/

theorem exec_purgeComplete (hreset : s.inReset = false) :
    exec (.purgeComplete t) s = .next (s.eventOf [.purgeComplete t]) :=
  State.act_eq hreset fun s => s.eventOf [.purgeComplete t]

theorem exec_ignitionChange (hreset : s.inReset = false) :
    exec (.ignitionChange t) s = .next (s.eventOf [.ignitionTest t]) :=
  State.act_eq hreset fun s => s.eventOf [.ignitionTest t]

theorem exec_postFlowEnd (hreset : s.inReset = false) :
    exec (.postFlowEnd t) s = .next (s.eventOf [.postFlowEnd t]) :=
  State.act_eq hreset fun s => s.eventOf [.postFlowEnd t]

theorem taskPurgeComplete_full (hstate : (c.s.atm.get t).state = .purge)
    (hfull : (c.s.atm.get t).purgeTarget ≤ (c.s.atm.get t).purgeVolume) : taskPurgeComplete t c =
      continuation t (c.put (c.s.setAtm t { c.s.atm.get t with purged := true, incomplete := false })) :=
  if_pos ⟨hstate, hfull⟩

theorem continuation_steam (h : (c.s.atm.get t).targetClass = .steam) :
    continuation t c = submitChange t (preflowFlows (c.s.atm.get t).target) .preflow .purgeDone c := if_pos h

theorem continuation_dry (h : (c.s.atm.get t).targetClass ≠ .steam) :
    continuation t c = submitChange t (c.s.atm.get t).target .stable .purgeDone c := if_neg h

theorem taskPostFlowEnd_ends (hstate : (c.s.atm.get t).state = .extinguish)
    (htime : (c.s.tubeConfig t).postFlowTime ≤ (c.s.atm.get t).phaseTimer) :
    taskPostFlowEnd t c = submitChange t (c.s.tubeConfig t).purgeFlows .purge .extinguish c := if_pos ⟨hstate, htime⟩

theorem stands_iff {b : BoatState} : b.stands = true ↔ b = .ready ∨ b = .waitCond := by
  cases b <;> simp [BoatState.stands]

/-- The ignition test of R110. -/
theorem ignites_iff : s.ignites t = true ↔ (s.atm.get t).state = .preflow ∧ (s.atm.get t).awaited = none ∧
    (s.tubeConfig t).preflowTime ≤ (s.atm.get t).phaseTimer ∧
    ((s.boat.get t).state = .ready ∨ (s.boat.get t).state = .waitCond) ∧ (s.atm.get t).flame = false := by
  simp [State.ignites, stands_iff, and_assoc]

theorem taskIgnitionTest_ignites (h : c.s.ignites t = true) : taskIgnitionTest t c =
    submitChange t ((c.s.tubeConfig t).ignitionFlows (c.s.atm.get t).target) .ignite .stable c := if_pos h

/-- A boat that neither stands READY nor waits holds the ignition change back, and so does each other part of the test. -/
theorem ignites_fails (h : (s.atm.get t).state ≠ .preflow ∨ (s.atm.get t).awaited ≠ none ∨
    (s.atm.get t).phaseTimer < (s.tubeConfig t).preflowTime ∨ (s.atm.get t).flame = true ∨
    ((s.boat.get t).state ≠ .ready ∧ (s.boat.get t).state ≠ .waitCond)) : s.ignites t = false := by
  refine Bool.eq_false_iff.2 fun hignites => ?_
  obtain ⟨hstate, hfree, htime, hboat, hdark⟩ := ignites_iff.1 hignites
  obtain h | h | h | h | ⟨hready, hwaits⟩ := h
  · exact h hstate
  · exact h hfree
  · omega
  · simp [hdark] at h
  · exact hboat.elim hready hwaits

/-- The state of the bank once a purge of the tube is full. -/
def purgedState (s : State) (t : Tube) : State :=
  s.setAtm t { s.atm.get t with purged := true, incomplete := false }

theorem purgedState_atm (s : State) (t : Tube) :
    (purgedState s t).atm.get t = { s.atm.get t with purged := true, incomplete := false } := PerTube.get_set_same ..

/-- A full purge of a steam target goes on to the preflow (R109, R110). -/
theorem purgeComplete_steam (hstate : (s.atm.get t).state = .purge)
    (hfull : (s.atm.get t).purgeTarget ≤ (s.atm.get t).purgeVolume) (hsteam : (s.atm.get t).targetClass = .steam)
    (hfit : Fits s t (preflowFlows (s.atm.get t).target)) (hview : (s.run.get t).gasView = false)
    (htime : 1 ≤ (s.tubeConfig t).preflowTime) :
    InForce (purgedState s t) t (preflowFlows (s.atm.get t).target) .preflow (s.eventOf [.purgeComplete t]) := by
  have hclass : ((purgedState s t).atm.get t).targetClass = .steam := by rw [purgedState_atm]; exact hsteam
  have htask : handle (.purgeComplete t) (Ctx.start s false) = _ :=
    (taskPurgeComplete_full hstate hfull).trans (continuation_steam (c := Ctx.start (purgedState s t) false) hclass)
  rw [Ctx.start_s, purgedState_atm] at htask
  refine eventOf_hushed htask ⟨hfit.queue, hfit.passes⟩ (fun _ => ⟨?_, htime⟩) (.inl rfl) hview
  rw [purgedState_atm]
  exact ne_of_eq_of_ne hstate (by simp)

/-- A full purge of another target ends STABLE (R109). -/
theorem purgeComplete_dry (hstate : (s.atm.get t).state = .purge)
    (hfull : (s.atm.get t).purgeTarget ≤ (s.atm.get t).purgeVolume) (hdry : (s.atm.get t).targetClass ≠ .steam)
    (hfit : Fits s t (s.atm.get t).target) (hrests : (s.runState t).walks = false) :
    InForce (purgedState s t) t (s.atm.get t).target .stable (s.eventOf [.purgeComplete t]) := by
  have hclass : ((purgedState s t).atm.get t).targetClass ≠ .steam := by rw [purgedState_atm]; exact hdry
  have htask : handle (.purgeComplete t) (Ctx.start s false) = _ :=
    (taskPurgeComplete_full hstate hfull).trans (continuation_dry (c := Ctx.start (purgedState s t) false) hclass)
  rw [Ctx.start_s, purgedState_atm] at htask
  exact eventOf_rests htask ⟨hfit.queue, hfit.passes⟩ (by simp) hrests

end

/-- Settles O50: each row submits one change that fits, and the messages after it leave what it has put in force. -/
theorem purgeTorchAndPostFlowAdvance : Obligations.PurgeTorchAndPostFlowAdvance := by
  intro s t hreset a cfg preflow ignition purge fits
  have hfits : ∀ {f}, fits f → Fits s t f := fun h => ⟨h.1, h.2⟩
  rw [exec_purgeComplete hreset, exec_ignitionChange hreset, exec_postFlowEnd hreset]
  refine ⟨fun h => ?_, fun hstate hfull hsteam hfit hview htime => ?_, fun hstate hfull hdry hfit hrests => ?_,
    fun h => ?_, fun hstate hfree htime hdark hboat hfit hview => ?_, fun h => ?_,
    fun hstate htime hfit hview hboat => ?_⟩
  · have hstands : taskPurgeComplete t (Ctx.start s false) = (Ctx.start s false, []) :=
      if_neg fun hfull => h.elim (fun hs => hs hfull.1) (Nat.not_lt.2 hfull.2)
    exact congrArg _ (eventOf_stands hstands)
  · obtain ⟨hcommands, hatm, hfaults⟩ := purgeComplete_steam hstate hfull hsteam (hfits hfit) hview htime
    refine ⟨_, rfl, ?_, ?_, ?_, hcommands, hfaults⟩ <;> rw [hatm, purgedState_atm]
    · exact land_state ..
    · exact land_preflow_phaseTimer (ne_of_eq_of_ne hstate (by simp))
    · exact (land_purged_iff ..).2 ⟨rfl, .inl rfl⟩
  · obtain ⟨hcommands, hatm, hfaults⟩ := purgeComplete_dry hstate hfull hdry (hfits hfit) (walks_of_rests hrests)
    refine ⟨_, rfl, ?_, hcommands, ?_, hfaults⟩ <;> rw [hatm]
    · exact land_state ..
    · exact land_cls ..
  · exact congrArg _ (eventOf_stands (taskIgnitionTest_stands (ignites_fails h)))
  · have hignites : s.ignites t = true := ignites_iff.2 ⟨hstate, hfree, htime, hboat, hdark⟩
    obtain ⟨hcommands, hatm, hfaults⟩ := eventOf_hushed (n := s) (k := .ignitionTest t)
      (taskIgnitionTest_ignites (c := Ctx.start s false) hignites) (hfits hfit) (by simp) (.inr (.inl rfl)) hview
    obtain ⟨htimer, higniter⟩ := land_ignite (a := a) (cfg := cfg) (f := ignition) (ne_of_eq_of_ne hstate (by simp))
    refine ⟨_, rfl, ?_, ?_, ?_, hcommands, hfaults⟩ <;> rw [hatm]
    · exact land_state ..
    · exact higniter
    · exact htimer
  · have hstands : taskPostFlowEnd t (Ctx.start s false) = (Ctx.start s false, []) :=
      if_neg fun hends => h.elim (fun hs => hs hends.1) (Nat.not_lt.2 hends.2)
    exact congrArg _ (eventOf_stands hstands)
  · obtain ⟨hcommands, hatm, hfaults⟩ := eventOf_hushed (n := s) (k := .postFlowEnd t)
      (taskPostFlowEnd_ends (c := Ctx.start s false) hstate htime) (hfits hfit) (by simp)
      (.inr (.inr ⟨rfl, hboat⟩)) hview
    refine ⟨_, rfl, ?_⟩
    rw [hatm, land_purge (ne_of_eq_of_ne hstate (by simp))]
    exact ⟨rfl, rfl, rfl, rfl, hcommands, hfaults⟩

end Sys2Proof.TorchChanges

/-! SUPPORT. What a burning torch, or an ignition, becomes in the course of an event: no message of the event prepares or lights
a torch again, because only a gas tick finds a purge full. With it the rows of the flame-sense line and of the failed ignition
are settled (R110 to R115). -/

namespace Sys2Proof.TorchEvents

open Sys2Proof.Machine Sys2Proof.ZoneControl Sys2Proof.GasRules Sys2Proof.GasInvariants Sys2Proof.GasEvents
  Sys2Proof.GasSteps Sys2Proof.GasPaths Sys2Proof.GasReadbacks Sys2Proof.GasTicks Sys2Proof.GasRows
  Sys2Proof.TorchChanges

section

variable {s n : State} {c : Ctx} {t u : Tube} {k : Task} {ks : List Task} {f : Flows} {p : Phase} {origin : WaitOrigin}
  {burns level : Bool} {a : AtmRec} {cfg : TubeConfig}

/-! ### A tube past its ignition -/

/-- The phases that a change may lead to where no purge ends and no preflow begins: LIT only while the torch burns. -/
def reachable (burns : Bool) : Phase → Bool
  | .stable | .purge => true
  | .lit => burns
  | .preflow | .ignite => false

/-- The tube stands in such a phase or waits for one, it does not wait with the continuation of a purge, and its
flame-sense line stands at `level`. -/
structure PastIgnition (burns level : Bool) (a : AtmRec) : Prop where
  state : ∀ p : Phase, a.state = p.state → reachable burns p = true
  awaited : ∀ p, a.awaited = some p → reachable burns p = true
  origin : a.state = .waitHeader → a.waitOrigin ≠ .purgeDone
  flame : a.flame = level

theorem phase_state_injective {p q : Phase} (h : p.state = q.state) : p = q := by
  cases p <;> cases q <;> simp_all [Phase.state]

theorem PastIgnition.congr {b : AtmRec} (h : PastIgnition burns level a) (hstate : b.state = a.state)
    (hawaited : b.awaited = a.awaited) (horigin : b.waitOrigin = a.waitOrigin) (hflame : b.flame = a.flame) :
    PastIgnition burns level b where
  state := by rw [hstate]; exact h.state
  awaited := by rw [hawaited]; exact h.awaited
  origin := by rw [hstate, horigin]; exact h.origin
  flame := hflame.trans h.flame

theorem PastIgnition.not_preflow (h : PastIgnition burns level a) : a.state ≠ .preflow := fun hs =>
  Bool.false_ne_true (h.state .preflow hs)

theorem PastIgnition.not_ignite (h : PastIgnition burns level a) : a.state ≠ .ignite := fun hs =>
  Bool.false_ne_true (h.state .ignite hs)

theorem PastIgnition.not_lit (h : PastIgnition false level a) : a.state ≠ .lit := fun hs =>
  Bool.false_ne_true (h.state .lit hs)

/-- A state outside the five phases, with nothing awaited. -/
theorem pastIgnition_of_idle (hstate : a.state = .extinguish ∨ a.state = .safeFlow) (hawaited : a.awaited = none)
    (hflame : a.flame = level) : PastIgnition burns level a where
  state p hp := by obtain h | h := hstate <;> rw [h] at hp <;> cases p <;> cases hp
  awaited p hp := by rw [hawaited] at hp; cases hp
  origin hw := by obtain h | h := hstate <;> rw [h] at hw <;> cases hw
  flame := hflame

theorem land_flame (a : AtmRec) (cfg : TubeConfig) (p : Phase) (f : Flows) : (a.land cfg p f).flame = a.flame := by
  unfold AtmRec.land AtmRec.enterPhase
  split
  · rfl
  · cases p <;> rfl

theorem PastIgnition.land (h : PastIgnition burns level a) (hp : reachable burns p = true) :
    PastIgnition burns level (a.land cfg p f) where
  state q hq := by
    rw [land_state] at hq
    rwa [← phase_state_injective hq]
  awaited q hq := by cases hq
  origin hw := by
    rw [land_state] at hw
    cases p <;> cases hw
  flame := (land_flame ..).trans h.flame

theorem PastIgnition.wait (h : PastIgnition burns level a) (hp : reachable burns p = true) (ho : origin ≠ .purgeDone) :
    PastIgnition burns level (a.wait p origin) := by
  have hawaited : ∀ q, some p = some q → reachable burns q = true := by rintro _ ⟨⟩; exact hp
  unfold AtmRec.wait
  split
  · exact ⟨h.state, hawaited, h.origin, h.flame⟩
  · exact ⟨fun q hq => by (cases q <;> cases hq), hawaited, fun _ => ho, h.flame⟩

/-- The record of the tube, past its ignition. -/
def past (burns level : Bool) (t : Tube) (s : State) : Prop := PastIgnition burns level (s.atm.get t)

theorem past_setAtm_same (h : PastIgnition burns level a) : past burns level t (s.setAtm t a) := by
  unfold past
  rw [State.setAtm_atm, PerTube.get_set_same]
  exact h

theorem past_submitChange (h : past burns level t c.s) (hp : reachable burns p = true) (ho : origin ≠ .purgeDone) :
    past burns level t (submitChange t f p origin c).1.s := by
  unfold past
  by_cases happlied : (c.s.gas.submit c.s.config.bank.headers t f).2.1 = .applied
  · rw [submitChange_applied happlied]
    exact PastIgnition.land h hp
  · rw [submitChange_waits happlied]
    exact PastIgnition.wait h hp ho

theorem past_extinguish {mid : List Task} (hflame : (c.s.atm.get t).flame = level) :
    past burns level t (extinguish t mid c).1.s := by
  obtain ⟨-, ⟨hstate, -, -, hawaited, -⟩, -⟩ := extinguish_outcome t mid c
  refine pastIgnition_of_idle (.inl hstate) hawaited (.trans ?_ hflame)
  unfold extinguish
  simp [AtmRec.takeFlows]

theorem past_pathFromStable {leaving : AtmClass} (h : past burns level t c.s) (ho : origin ≠ .purgeDone) :
    past burns level t (pathFromStable t leaving origin c).1.s := by
  unfold pathFromStable
  dsimp only
  split
  · exact past_submitChange (c := c.put _) (past_setAtm_same (PastIgnition.congr h rfl rfl rfl rfl)) rfl ho
  · exact past_submitChange h rfl ho

theorem past_taskRecompute (w : Bool) (h : past burns level t c.s) :
    past burns level t (taskRecompute t w c).1.s := by
  unfold taskRecompute
  dsimp only
  split
  case h_1 | h_2 => exact past_pathFromStable h (by simp)
  case h_3 hstate =>
    have horigin := PastIgnition.origin h hstate
    split
    · exact past_pathFromStable h (by simp)
    · split
      · exact past_submitChange h rfl (by simp)
      · exact h
    next hdone => exact absurd hdone horigin
    · exact past_pathFromStable h (by simp)
  case h_4 =>
    split
    · exact h
    · exact past_submitChange (c := c.put _) (past_setAtm_same (PastIgnition.congr h rfl rfl rfl rfl)) rfl (by simp)
  case h_5 hstate => exact absurd hstate (PastIgnition.not_preflow h)
  case h_6 hstate => exact absurd hstate (PastIgnition.not_ignite h)
  case h_7 hstate =>
    split
    · exact past_submitChange h (PastIgnition.state h .lit hstate) (by simp)
    · exact past_extinguish (PastIgnition.flame h)
  case h_8 => exact h

/-! ### What a message writes and gives -/

/-- Messages that are given outside a gas tick too: only a tick counts a purge and finds it full (R107 to R109). -/
def offTick (ks : List Task) : Prop := (∀ u, .atmTick u ∉ ks) ∧ ∀ u, .purgeComplete u ∉ ks

theorem offTick_append {js : List Task} : offTick (js ++ ks) ↔ offTick js ∧ offTick ks := by
  simp only [offTick, List.mem_append, not_or, forall_and]
  exact and_and_and_comm

/-- An answer that writes no other tube's atmosphere record than that of `u`, and that no gas tick has to give. -/
structure OwnRecord (u : Tube) (s : State) (r : Ctx × List Task) : Prop where
  others : ∀ t, t ≠ u → r.1.s.atm.get t = s.atm.get t
  offTick : offTick r.2

theorem OwnRecord.none (u : Tube) (c : Ctx) : OwnRecord u c.s (c, []) :=
  ⟨fun _ _ => rfl, by simp [TorchEvents.offTick]⟩

theorem OwnRecord.of_setAtm {a : AtmRec} (hatm : c.s.atm = s.atm.set u a) (hks : TorchEvents.offTick ks) :
    OwnRecord u s (c, ks) := ⟨fun t ht => by rw [hatm]; exact PerTube.get_set_other _ ht _, hks⟩

/-- An answer given after the tube's own record has been written. -/
theorem OwnRecord.after {r : Ctx × List Task} {a : AtmRec} (h : OwnRecord u (s.setAtm u a) r) : OwnRecord u s r :=
  ⟨fun t ht => (h.others t ht).trans (PerTube.get_set_other _ ht _), h.offTick⟩

theorem offTick_atmTasks {mid : List Task} (h : offTick mid) (t : Tube) (a b : AtmRec) :
    offTick (atmTasks t a b mid) := by
  simp only [atmTasks, offTick_append, h]
  simp [offTick]

theorem ownRecord_submitChange (u : Tube) (f : Flows) (p : Phase) (o : WaitOrigin) (c : Ctx) :
    OwnRecord u c.s (submitChange u f p o c) := .of_setAtm rfl (offTick_atmTasks (by simp [offTick]) _ _ _)

theorem ownRecord_extinguish {mid : List Task} (h : offTick mid) (u : Tube) (c : Ctx) :
    OwnRecord u c.s (extinguish u mid c) :=
  .of_setAtm rfl (offTick_atmTasks (offTick_append.2 ⟨by simp [offTick], h⟩) _ _ _)

theorem ownRecord_pathFromStable (u : Tube) (l : AtmClass) (o : WaitOrigin) (c : Ctx) :
    OwnRecord u c.s (pathFromStable u l o c) := by
  unfold pathFromStable
  dsimp only
  split
  · exact .after (ownRecord_submitChange u _ _ o (c.put _))
  · exact ownRecord_submitChange ..

theorem ownRecord_continuation (u : Tube) (c : Ctx) : OwnRecord u c.s (continuation u c) := by
  unfold continuation
  dsimp only
  split <;> exact ownRecord_submitChange ..

theorem ownRecord_taskRecompute (u : Tube) (w : Bool) (c : Ctx) : OwnRecord u c.s (taskRecompute u w c) := by
  have hnone := OwnRecord.none u c
  have hext : OwnRecord u c.s (extinguish u [] c) := ownRecord_extinguish (by simp [offTick]) u c
  unfold taskRecompute
  dsimp only
  split
  case h_1 | h_2 => exact ownRecord_pathFromStable ..
  case h_3 =>
    split
    · exact ownRecord_pathFromStable ..
    · split
      · exact ownRecord_submitChange ..
      · exact hnone
    · exact ownRecord_continuation ..
    · exact ownRecord_pathFromStable ..
  case h_4 =>
    split
    · exact hnone
    · exact .after (ownRecord_submitChange u _ _ _ (c.put _))
  case h_5 =>
    split
    · split
      · exact ownRecord_submitChange ..
      · split
        · exact hnone
        · exact ownRecord_submitChange ..
    · exact hext
  case h_6 =>
    split
    · exact hnone
    · exact hext
  case h_7 =>
    split
    · exact ownRecord_submitChange ..
    · exact hext
  case h_8 => exact hnone

/-- An answer that keeps the tube past its ignition, and that no gas tick has to give. -/
structure StaysPast (burns level : Bool) (t : Tube) (s : State) (r : Ctx × List Task) : Prop where
  past : past burns level t s → past burns level t r.1.s
  offTick : offTick r.2

theorem StaysPast.none (c : Ctx) : StaysPast burns level t c.s (c, []) := ⟨id, by simp [TorchEvents.offTick]⟩

theorem StaysPast.of_atm {r : Ctx × List Task} (h : r.1.s.atm = s.atm) (hks : TorchEvents.offTick r.2) :
    StaysPast burns level t s r := ⟨fun hpast => by unfold TorchEvents.past at *; rwa [h], hks⟩

theorem StaysPast.of_same {r : Ctx × List Task} (h : SameGas s r.1.s) (hks : TorchEvents.offTick r.2) :
    StaysPast burns level t s r := .of_atm h.atm hks

theorem StaysPast.of_ownRecord {r : Ctx × List Task} (h : OwnRecord u s r)
    (hown : ∀ level, TorchEvents.past burns level u s → TorchEvents.past burns level u r.1.s) :
    StaysPast burns level t s r := by
  refine ⟨fun hpast => ?_, h.offTick⟩
  by_cases hu : t = u
  · subst hu
    exact hown level hpast
  · unfold TorchEvents.past at *
    rwa [h.others t hu]

/-! ### The atmosphere controllers -/

theorem staysPast_taskExamine (c : Ctx) : StaysPast burns level t c.s (taskExamine c) := by
  unfold taskExamine
  split
  next g u _ =>
    have htasks : ∀ a b, offTick (atmTasks u a b [] ++ [.examine]) := fun a b =>
      offTick_append.2 ⟨offTick_atmTasks (by simp [offTick]) u a b, by simp [offTick]⟩
    refine .of_ownRecord (u := u) (.of_setAtm rfl (htasks _ _)) fun l h => past_setAtm_same ?_
    split
    next p hp => exact PastIgnition.land h (PastIgnition.awaited h p hp)
    next => exact PastIgnition.congr h rfl rfl rfl rfl
  next => exact .none c

theorem staysPast_taskGasRequest (u : Tube) (f : PerLine (Option Nat)) (c : Ctx) :
    StaysPast burns level t c.s (taskGasRequest u f c) :=
  .of_ownRecord (u := u) (.of_setAtm rfl (offTick_append.2 ⟨by simp [offTick], by simp [offTick]⟩)) fun _ h =>
    past_setAtm_same (PastIgnition.congr h rfl rfl rfl rfl)

theorem staysPast_taskWithdraw (u : Tube) (c : Ctx) : StaysPast burns level t c.s (taskWithdraw u c) := by
  unfold taskWithdraw
  dsimp only
  split
  · exact .none c
  · exact .of_ownRecord (u := u) (.of_setAtm rfl (by simp [offTick])) fun l h =>
      past_setAtm_same ⟨h.state, by simp, h.origin, h.flame⟩

theorem staysPast_taskSafeFlow (u : Tube) (c : Ctx) : StaysPast burns level t c.s (taskSafeFlow u c) :=
  .of_ownRecord (u := u) (.of_setAtm rfl (by simp [offTick])) fun _ h =>
    past_setAtm_same (pastIgnition_of_idle (.inr rfl) rfl h.flame)

theorem staysPast_taskPurgeIncomplete (u : Tube) (c : Ctx) :
    StaysPast burns level t c.s (taskPurgeIncomplete u c) := by
  unfold taskPurgeIncomplete
  dsimp only
  split
  · exact .of_ownRecord (u := u) (.of_setAtm rfl (by simp [offTick])) fun _ h =>
      past_setAtm_same (PastIgnition.congr h rfl rfl rfl rfl)
  · exact .none c

theorem staysPast_taskIgnitionTest (u : Tube) (c : Ctx) : StaysPast burns level t c.s (taskIgnitionTest u c) := by
  unfold taskIgnitionTest
  split
  next hignites =>
    exact .of_ownRecord (ownRecord_submitChange ..) fun _ h =>
      absurd (ignites_preflow hignites) (PastIgnition.not_preflow h)
  next => exact .none c

theorem staysPast_taskIgnitionFailed (u : Tube) (c : Ctx) : StaysPast burns level t c.s (taskIgnitionFailed u c) := by
  unfold taskIgnitionFailed
  dsimp only
  split
  next hfailed =>
    exact .of_ownRecord (.after (ownRecord_extinguish (by simp [offTick]) u (c.put _))) fun _ h =>
      absurd hfailed.1 (PastIgnition.not_ignite h)
  next => exact .none c

theorem staysPast_taskPostFlowEnd (u : Tube) (c : Ctx) : StaysPast burns level t c.s (taskPostFlowEnd u c) := by
  unfold taskPostFlowEnd
  dsimp only
  split
  · exact .of_ownRecord (ownRecord_submitChange ..) fun _ h => past_submitChange h rfl (by simp)
  · exact .none c

/-! ### The other blocks -/

theorem offTick_taskRelease (t : Tube) (c : Ctx) : offTick (taskRelease t c).2 := by
  unfold taskRelease
  split
  · simp [offTick]
  · split <;> simp [offTick]

theorem offTick_handAction (t : Tube) (a : Applied) (q : FaultKind) (c : Ctx) :
    offTick (handAction t a q c).2 := by
  unfold handAction
  split
  · split <;> simp [offTick]
  · simp [offTick]

theorem offTick_putBoat (t : Tube) (b : BoatRec) (c : Ctx) : offTick (putBoat t b c).2 := by
  unfold putBoat
  dsimp only
  split <;> simp [offTick]

theorem offTick_taskEvaluate (t : Tube) (c : Ctx) : offTick (taskEvaluate t c).2 := by
  unfold taskEvaluate
  dsimp only
  split <;> simp [offTick]

theorem offTick_taskStepEnd (t : Tube) (c : Ctx) : offTick (taskStepEnd t c).2 := by
  unfold taskStepEnd
  dsimp only
  split
  · split <;> simp [offTick]
  · simp [offTick]

theorem offTick_taskEnter (t : Tube) (l : ListSel) (i : Nat) (c : Ctx) :
    offTick (taskEnter t l i c).2 := by
  unfold taskEnter
  dsimp only
  split
  · refine offTick_append.2 ⟨offTick_append.2 ⟨by simp [offTick], ?_⟩, by simp [offTick]⟩
    split <;> simp [offTick]
  · simp [offTick]

theorem offTick_taskAbortFinish (t : Tube) (q : Cause) (c : Ctx) :
    offTick (taskAbortFinish t q c).2 := by
  unfold taskAbortFinish
  dsimp only
  split
  · split <;> simp [offTick]
  · simp [offTick]

theorem offTick_taskAction (t : Tube) (a : Applied) (q : FaultKind) (c : Ctx) :
    offTick (taskAction t a q c).2 := by
  unfold taskAction
  dsimp only
  split <;> simp [offTick]

theorem offTick_taskStepElapsed (t : Tube) (c : Ctx) : offTick (taskStepElapsed t c).2 := by
  unfold taskStepElapsed
  dsimp only
  split <;> simp [offTick]

theorem offTick_taskStepTimeout (t : Tube) (c : Ctx) : offTick (taskStepTimeout t c).2 := by
  unfold taskStepTimeout
  dsimp only
  split
  · split <;> simp [offTick]
  · simp [offTick]

theorem offTick_taskDetect (d : Detection) (c : Ctx) : offTick (taskDetect d c).2 := by
  unfold taskDetect
  dsimp only
  split
  · simp [offTick]
  · exact offTick_handAction ..

theorem offTick_taskShedDetect (m l : Nat) (c : Ctx) : offTick (taskShedDetect m l c).2 := by
  unfold taskShedDetect
  dsimp only
  split <;> simp [offTick]

theorem offTick_taskJudgeSamples (t : Tube) (z : Zone) (c : Ctx) : offTick (taskJudgeSamples t z c).2 := by
  simp [taskJudgeSamples, zoneDetection, offTick]

theorem offTick_taskTempReport (t : Tube) (met : Bool) (c : Ctx) : offTick (taskTempReport t met c).2 := by
  unfold taskTempReport
  dsimp only
  split <;> simp [offTick]

theorem staysPast_taskHeaderWait (u : Tube) (c : Ctx) : StaysPast burns level t c.s (taskHeaderWait u c) := by
  unfold taskHeaderWait
  dsimp only
  split
  · split
    · exact .of_atm rfl (by simp [offTick])
    · exact .none c
  · exact .none c

theorem staysPast_taskFlowDeviation (u : Tube) (l : GasLine) (c : Ctx) :
    StaysPast burns level t c.s (taskFlowDeviation u l c) := by
  unfold taskFlowDeviation
  dsimp only
  split
  · exact .of_atm rfl (by simp [lineDetection, offTick])
  · exact .none c

/-- A row that judges a condition gives its reports, or nothing. -/
theorem offTick_judged {q : Prop} [Decidable q] {c d : Ctx} (h : offTick ks) :
    offTick (if q then (d, ks) else (c, [])).2 := by
  split
  · exact h
  · simp [offTick]

theorem offTick_taskMoveRequest (t : Tube) (x v : Nat) (c : Ctx) : offTick (taskMoveRequest t x v c).2 := by
  unfold taskMoveRequest
  dsimp only
  split
  · simp [offTick]
  · exact offTick_putBoat ..

theorem offTick_taskMoveStart (t : Tube) (c : Ctx) : offTick (taskMoveStart t c).2 := by
  unfold taskMoveStart
  dsimp only
  split
  · exact offTick_putBoat ..
  · simp [offTick]

/-! ### Every message -/

/-- Outside a gas tick no message takes a tube past its ignition back to it. -/
theorem handle_staysPast (hk : offTick [k]) (c : Ctx) : StaysPast burns level t c.s (handle k c) := by
  cases k with
  | atmTick u => exact absurd (List.mem_singleton_self _) (hk.1 u)
  | purgeComplete u => exact absurd (List.mem_singleton_self _) (hk.2 u)
  | examine => exact staysPast_taskExamine c
  | gasRequest u f => exact staysPast_taskGasRequest u f c
  | recompute u w => exact .of_ownRecord (ownRecord_taskRecompute u w c) fun _ => past_taskRecompute w
  | withdraw u => exact staysPast_taskWithdraw u c
  | safeFlow u => exact staysPast_taskSafeFlow u c
  | purgeIncomplete u => exact staysPast_taskPurgeIncomplete u c
  | ignitionTest u => exact staysPast_taskIgnitionTest u c
  | ignitionFailed u => exact staysPast_taskIgnitionFailed u c
  | postFlowEnd u => exact staysPast_taskPostFlowEnd u c
  | evaluate u => exact .of_same (sameGas_taskEvaluate u c) (offTick_taskEvaluate u c)
  | stepEnd u => exact .of_same (sameGas_taskStepEnd u c) (offTick_taskStepEnd u c)
  | enter u l i => exact .of_same (sameGas_taskEnter u l i c) (offTick_taskEnter u l i c)
  | entryFinish u => exact .of_same (sameGas_taskEntryFinish u c) (by simp [handle, taskEntryFinish, offTick])
  | release u => exact .of_same (sameGas_taskRelease u c) (offTick_taskRelease u c)
  | endRun u r q =>
    exact .of_same ((sameGas_closeRun c u r).trans (sameGas_changeState ..)) (by simp [handle, taskEndRun, offTick])
  | idle u => exact .of_same (sameGas_taskIdle u c) (by simp [handle, taskIdle, offTick])
  | abortFinish u q => exact .of_same (sameGas_taskAbortFinish u q c) (offTick_taskAbortFinish u q c)
  | safeFinish u q =>
    exact .of_same ((sameGas_closeRun c u .stoppedSafe).trans (sameGas_changeState ..))
      (by simp [handle, taskSafeFinish, offTick])
  | action u a q => exact .of_same (sameGas_taskAction u a q c) (offTick_taskAction u a q c)
  | stepElapsed u => exact .of_same (sameGas_taskStepElapsed u c) (offTick_taskStepElapsed u c)
  | stepTimeout u => exact .of_same (sameGas_taskStepTimeout u c) (offTick_taskStepTimeout u c)
  | detect d => exact .of_same (sameGas_taskDetect d c) (offTick_taskDetect d c)
  | shedDetect m l => exact .of_same (sameGas_taskShedDetect m l c) (offTick_taskShedDetect m l c)
  | shedActed u a l rs q p => exact .of_same (sameGas_taskShedActed u a l rs q p c) (offTick_handAction ..)
  | judgeSamples u z => exact .of_same ⟨rfl, rfl, rfl⟩ (offTick_taskJudgeSamples u z c)
  | rampStalled u => exact .of_same (sameGas_taskRampStalled u c) (offTick_judged (by simp [offTick]))
  | tempReport u v => exact .of_same (sameGas_taskTempReport u v c) (offTick_taskTempReport u v c)
  | powerStarved u z => exact .of_same (sameGas_taskPowerStarved u z c) (offTick_judged (by simp [offTick]))
  | headerWait u => exact staysPast_taskHeaderWait u c
  | flowDeviation u l => exact staysPast_taskFlowDeviation u l c
  | moveRequest u x v => exact .of_same (sameGas_taskMoveRequest u x v c) (offTick_taskMoveRequest u x v c)
  | moveStart u => exact .of_same (sameGas_taskMoveStart u c) (offTick_taskMoveStart u c)
  | boatStop u => exact .of_same ⟨rfl, rfl, rfl⟩ (offTick_putBoat u _ c)
  | boatHold u on => exact .of_same ⟨rfl, rfl, rfl⟩ (offTick_putBoat u _ c)
  | boatRelease u => exact .of_same ⟨rfl, rfl, rfl⟩ (offTick_putBoat u _ c)
  | settleTimeout u => exact .of_same (sameGas_taskSettleTimeout u c) (offTick_judged (ks := [_, _]) (by simp [offTick]))
  | shutterTimeout u => exact .of_same (sameGas_taskShutterTimeout u c) (offTick_judged (by simp [offTick]))
  | commissionTube u =>
    have hbank := sameGas_setBank (c.s.seed u) u (c.s.tubeConfig u).defaultBank
    exact .of_same (.trans (n := c.s.seed u) ⟨rfl, rfl, rfl⟩ (hbank.trans ⟨rfl, rfl, rfl⟩))
      (by simp [handle, taskCommissionTube, offTick])
  | entryGas | entryMove | enterHolding | leaveHolding | abort | enterSafe | bankDetect | atmReport | boatReport =>
    exact .of_same ⟨rfl, rfl, rfl⟩ (by simp [handle, taskEntryGas, taskEntryMove, taskEnterHolding, taskLeaveHolding,
      taskAbort, taskEnterSafe, taskBankDetect, taskAtmReport, taskBoatReport, offTick])

theorem runTasks_past (hks : offTick ks) (h : past burns level t c.s) (m : Nat) :
    past burns level t (runTasks m ks c).s := by
  obtain ⟨_, hpast, -⟩ := runTasks_keeps_with (P := fun c ks => past burns level t c.s ∧ offTick ks)
    (fun k ks c ⟨hc, hall⟩ => by
      obtain ⟨hk, hks⟩ := offTick_append (js := [k]).1 hall
      obtain ⟨hnext, hnew⟩ := handle_staysPast (burns := burns) (level := level) (t := t) hk c
      exact ⟨hnext hc, offTick_append.2 ⟨hnew, hks⟩⟩) m ks c ⟨h, hks⟩
  exact hpast

/-! ### A torch that goes out (R113, R114) -/

/-- Past its ignition and with no torch burning, a sound tube commands no hydrogen and holds its igniter off. -/
theorem dark_of_past (hsound : n.torchesSound) (h : past false level t n) : (n.gas.commands t).h2 = 0 ∧
    (n.atm.get t).igniter = false ∧ (n.atm.get t).state ≠ .lit ∧ (n.atm.get t).state ≠ .ignite := by
  have htorch : Torch (n.atm.get t) (supply n.gas t) := (torchesSound_iff n).1 hsound t
  have hlit := PastIgnition.not_lit h
  have hignite := PastIgnition.not_ignite h
  refine ⟨Nat.eq_zero_of_not_pos fun hflows => ?_, htorch.igniter_off hignite, hlit, hignite⟩
  exact (htorch.hydrogen hflows).elim hignite hlit

theorem setFlame_atm (s : State) (t : Tube) (high : Bool) :
    (s.setFlame t high).atm.get t = { s.atm.get t with flame := high } := PerTube.get_set_same ..

theorem exec_flameSenseFall (hreset : s.inReset = false) :
    exec (.flameSenseFall t) s = .next (s.event (flameFall t)) :=
  congrArg Host.Outcome.next (if_neg (by simp [hreset]))

theorem exec_flameSenseRise (hreset : s.inReset = false) :
    exec (.flameSenseRise t) s = .next (s.event (flameRise t)) :=
  congrArg Host.Outcome.next (if_neg (by simp [hreset]))

theorem exec_ignitionFailed (hreset : s.inReset = false) :
    exec (.ignitionFailed t) s = .next (s.eventOf [.ignitionFailed t]) :=
  State.act_eq hreset fun s => s.eventOf [.ignitionFailed t]

/-- The detection that a lost flame reports (R114). -/
def flameLost (a : AtmRec) (t : Tube) : Task := .detect (detection t .flameLost none (some a.inForce.h2) none)

theorem flameFall_lit (h : (s.atm.get t).state = .lit) : flameFall t (Ctx.start s false) =
    extinguish t [flameLost ((s.setFlame t false).atm.get t) t] (Ctx.start (s.setFlame t false) false) := by
  have hstate : ((s.setFlame t false).atm.get t).state = .lit := by rw [setFlame_atm]; exact h
  exact if_pos hstate

/-- The rest of an event that begins with an extinguish. -/
theorem runTasks_extinguish {mid : List Task} (hmid : offTick mid) (hflame : (c.s.atm.get t).flame = level) (m : Nat) :
    past false level t (runTasks m (extinguish t mid c).2 (extinguish t mid c).1).s :=
  runTasks_past (ownRecord_extinguish hmid t c).offTick (past_extinguish hflame) m

theorem past_flameFall (h : (s.atm.get t).state = .lit) : past false false t (s.event (flameFall t)) := by
  rw [State.event, flameFall_lit h]
  exact runTasks_extinguish (by simp [flameLost, offTick]) (by rw [Ctx.start_s, setFlame_atm]) _

theorem past_ignitionFailed (hstate : (s.atm.get t).state = .ignite)
    (htime : (s.tubeConfig t).ignitionTimeout ≤ (s.atm.get t).phaseTimer) :
    past false (s.atm.get t).flame t (s.eventOf [.ignitionFailed t]) := by
  have hfailed : taskIgnitionFailed t (Ctx.start s false) = _ := if_pos ⟨hstate, htime⟩
  rw [State.eventOf_single, handle, hfailed, List.append_nil]
  exact runTasks_extinguish (by simp [offTick]) (by simp) _

theorem flameFall_stands (hlit : (s.atm.get t).state ≠ .lit) :
    s.event (flameFall t) = (s.setFlame t false).eventOf [.ignitionTest t] := by
  have hstate : ((s.setFlame t false).atm.get t).state ≠ .lit := by rw [setFlame_atm]; exact hlit
  have hfall : flameFall t (Ctx.start s false) = (Ctx.start (s.setFlame t false) false, [.ignitionTest t]) :=
    if_neg hstate
  rw [State.event, hfall]
  rfl

/-! ### A flame found (R111, R112) -/

/-- The bank once the flame of a tube in IGNITE has been found. -/
def foundState (s : State) (t : Tube) : State :=
  (s.setFlame t true).setAtm t { (s.setFlame t true).atm.get t with igniter := false, state := .lit }

theorem foundState_atm (s : State) (t : Tube) :
    (foundState s t).atm.get t = { s.atm.get t with flame := true, igniter := false, state := .lit } := by
  unfold foundState
  rw [State.setAtm_atm, PerTube.get_set_same, setFlame_atm]

theorem flameRise_ignite (h : (s.atm.get t).state = .ignite) : flameRise t (Ctx.start s false) =
    submitChange t (s.atm.get t).target .lit .stable (Ctx.start (foundState s t) false) := by
  have hstate : ((s.setFlame t true).atm.get t).state = .ignite := by rw [setFlame_atm]; exact h
  have htarget : ((s.setFlame t true).atm.get t).target = (s.atm.get t).target := by rw [setFlame_atm]
  rw [← htarget]
  exact if_pos hstate

theorem flameRise_stands (h : (s.atm.get t).state ≠ .ignite) : s.event (flameRise t) = s.setFlame t true := by
  have hstate : ((s.setFlame t true).atm.get t).state ≠ .ignite := by rw [setFlame_atm]; exact h
  have hrise : flameRise t (Ctx.start s false) = (Ctx.start (s.setFlame t true) false, []) := if_neg hstate
  rw [State.event, hrise, runTasks_nil]
  rfl

theorem past_flameRise (hsound : s.torchesSound) (h : (s.atm.get t).state = .ignite) :
    past true true t (s.event (flameRise t)) := by
  have htorch : Torch (s.atm.get t) (supply s.gas t) := (torchesSound_iff s).1 hsound t
  have hfree : (s.atm.get t).awaited = none := by
    refine Option.not_isSome_iff_eq_none.1 fun hwaits => ?_
    obtain hs | hs | hs := htorch.awaiting hwaits <;> simp [h] at hs
  have hfound : past true true t (foundState s t) := by
    unfold past
    rw [foundState_atm]
    exact ⟨fun p hp => by rw [← phase_state_injective (p := .lit) hp]; rfl, by simp [hfree], by simp, rfl⟩
  rw [State.event, flameRise_ignite h]
  exact runTasks_past (ownRecord_submitChange ..).offTick
    (past_submitChange (c := Ctx.start (foundState s t) false) hfound rfl (by simp)) _

/-- The target of a tube whose run controller does not walk is in force in LIT. -/
theorem inForce_flameRise (h : (s.atm.get t).state = .ignite) (hfit : Fits s t (s.atm.get t).target)
    (hrests : (s.runState t).walks = false) :
    InForce (foundState s t) t (s.atm.get t).target .lit (s.event (flameRise t)) := by
  have hfit' : Fits (foundState s t) t (s.atm.get t).target := ⟨hfit.queue, hfit.passes⟩
  rw [State.event, flameRise_ignite h, submitChange_fits hfit']
  exact inForce_rests hfit' (by simp) hrests _

end

theorem walks_of_not_walking {rs : RunState} (hrun : rs ≠ .running) (habort : rs ≠ .aborting) : rs.walks = false := by
  cases rs <;> simp_all [RunState.walks]

/-- Settles O51: an extinguish takes the tube past its ignition, and the event that follows leaves it there; the torch
invariant then shuts hydrogen and igniter. -/
theorem lostFlameShutsTheHydrogen : Obligations.LostFlameShutsTheHydrogen := by
  refine ⟨fun s t hreset hsound => ?_, fun s t hreset hstate => ?_⟩
  · intro a dark
    rw [exec_flameSenseFall hreset, exec_flameSenseRise hreset, exec_ignitionFailed hreset]
    refine ⟨fun hlit => ?_, fun hignite htime => ?_, fun h => ?_, fun hignite => ?_, fun hout => ?_,
      fun hlit hpreflow => ?_⟩
    · have hpast := past_flameFall hlit
      have hsounds := (sustains_event (starts_flameFall t (Ctx.start s false))).torches hsound
      exact ⟨_, rfl, dark_of_past hsounds hpast, hpast.flame⟩
    · have hpast := past_ignitionFailed hignite htime
      have hsounds := (sustains_eventOf (s := s) (ks := [.ignitionFailed t]) (by simp [still])).torches hsound
      exact ⟨_, rfl, dark_of_past hsounds hpast⟩
    · have hstands : taskIgnitionFailed t (Ctx.start s false) = (Ctx.start s false, []) :=
        if_neg fun hfails => h.elim (fun hs => hs hfails.1) (Nat.not_lt.2 hfails.2)
      exact congrArg _ (eventOf_stands hstands)
    · have hpast := past_flameRise hsound hignite
      have hsounds := (sustains_event (starts_flameRise t (Ctx.start s false))).torches hsound
      have htorch : Torch _ _ := (torchesSound_iff _).1 hsounds t
      refine ⟨_, rfl, htorch.igniter_off (PastIgnition.not_ignite hpast), hpast.flame,
        fun hrun habort hqueue hpasses => ?_⟩
      obtain ⟨hcommands, hatm, -⟩ := inForce_flameRise hignite ⟨hqueue, hpasses⟩ (walks_of_not_walking hrun habort)
      exact ⟨by rw [hatm]; exact land_state .., hcommands⟩
    · exact congrArg _ (flameRise_stands hout)
    · rw [flameFall_stands hlit]
      refine congrArg _ (eventOf_stands (taskIgnitionTest_stands (ignites_of_state ?_)))
      rw [Ctx.start_s, setFlame_atm]
      exact hpreflow
  · rw [exec_flameSenseFall hreset, flameFall_stands (ne_of_eq_of_ne hstate (by simp))]
    refine ⟨rfl, fun h => congrArg _ (eventOf_stands (taskIgnitionTest_stands (ignites_fails ?_)))⟩
    rw [Ctx.start_s, setFlame_atm]
    exact .inr (h.imp_right (.imp_right .inr))

end Sys2Proof.TorchEvents
